-- ==== Sys2Proof/Word.lean ====
section
/-! DEFINITION. The word types of the part and the fixed-size tables the manual indexes by number.
Signed values are kept as the two's complement words the link carries (file 12) and read with `toInt`. -/

namespace Sys2Proof

/-- A byte of a frame or a lane symbol. -/
abbrev Byte := BitVec 8

/-- An epoch number, 32 bits, wrapping (section 0.8). -/
abbrev Epoch := BitVec 32

/-- A signed value −32768..32767, as the 16-bit two's complement word the manual carries it in. -/
abbrev Value := BitVec 16

/-- A set of channels: bit c stands for channel c (chapter 12). -/
abbrev ChannelSet := BitVec 16

/-- A set of lanes: bit l stands for lane l. -/
abbrev LaneSet := BitVec 4

/-- A set of slots 0..7 of a lane. -/
abbrev SlotSet := BitVec 8

/-- A set of the seven alert sources, coded as in Table 12-5 without its reserved bit. -/
abbrev AlertSet := BitVec 7

/-- A table of `n` entries, indexed from 0. -/
abbrev Table (α : Type) (n : Nat) := Vector α n

/-- The table with one entry replaced. -/
def Table.put {α : Type} {n : Nat} (t : Table α n) (i : Fin n) (a : α) : Table α n :=
  t.set i.val a i.isLt

/-- The table with every entry mapped, the function seeing the index. -/
def Table.mapAll {α β : Type} {n : Nat} (f : Fin n → α → β) (t : Table α n) : Table β n :=
  Vector.ofFn fun i => f i t[i]

/-- The set holding one member. -/
def single (n : Nat) (i : Fin n) : BitVec n := BitVec.ofFnLE fun j => decide (j = i)

/-- Whether a set holds a member. -/
def has {n : Nat} (b : BitVec n) (i : Fin n) : Bool := b.getLsbD i.val

end Sys2Proof
end

