-- ==== Sys2Proof/Syntax.lean ====
section
/-! DEFINITION. The commands the part takes: one constructor per row of spec/opcode_table.json.
A row that executes a request has no operands of its own: its operands are those of the request at the head of
the request queue (R159). -/

namespace Sys2Proof

/-- The seven alert sources (Table 9-1). -/
inductive AlertSource where
  | captureDelivered | triggerMissed | sampleLate | sampleMissing | laneFault | streamGap | linkProtocol
  deriving DecidableEq, Repr

/-- The commands (events) of the part. -/
inductive Instr where
  -- the RESET line
  | coldReset
  -- Epoch Timer
  | epochStart
  | epochStop
  | periodExpiry
  -- converter lanes
  /-- A lane word that passed its check, on a lane, with its epoch tag, slot and raw value (section 1.4). -/
  | laneWord (lane : Fin 4) (tag : BitVec 4) (slot : Fin 8) (raw : BitVec 16)
  | alignmentMark (lane : Fin 4)
  | badSymbol (lane : Fin 4)
  | laneLossOfSignal (lane : Fin 4)
  -- Condition Engine and Capture Controller
  | walk
  | fireRequest
  | fireAnswer
  | captureRecordTake
  -- Stream Forwarder
  | streamRecordTake
  | decimationReload
  | streamFrameCompletion
  -- Delivery Engine
  | drainStart
  | captureFrameCompletion
  -- Alert Unit
  /-- The Alert Unit takes one of the raises handed to it, the one of the named source (R136). -/
  | alertRaise (source : AlertSource)
  | alertFrameCompletion
  | reAnnounceTimerExpiry
  -- Link Controller
  | signalDetected
  | linkLossOfSignal
  | trainFrame
  /-- A REQUEST frame whose check passed: header byte 1 and the body bytes (section 12.2). -/
  | requestFrame (tag : Byte) (body : List Byte)
  | creditFrame (count : Byte)
  | badFrame
  /-- The end of a transmission. `sourceFirst` says whether a capture or stream source takes the completion
  before the arbiter's next start (R153 allows both). -/
  | transmissionCompletion (sourceFirst : Bool)
  -- Management Engine and link loss at each block
  | requestArrival
  | replyCompletion
  | linkLossManagement
  | linkLossDelivery
  | linkLossStream
  | linkLossAlert
  -- execution of the request at the head of the request queue
  | read
  | readChannelRuntime
  | write
  | writeControl
  | writeChannel
  | writeLevel
  | writeCondition
  | writeTrigger
  | writeUnit
  | commit
  | discardEdits
  | arm
  | abort
  | release
  | replay
  | fire
  | alertAck
  | status
  | unknownKind
  | reset
  | softResetDone
  -- the soft reset at each block
  | softResetEpochTimer
  | softResetChannelProcessor
  | softResetConditionEngine
  | softResetCaptureController
  | softResetDeliveryEngine
  | softResetStreamForwarder
  | softResetAlertUnit
  deriving DecidableEq, Repr

end Sys2Proof
end

