-- ==== Sys2Proof/Config.lean ====
section
/-! DEFINITION. The numbers the manual fixes for every part. The manual leaves no value to an implementation,
so there is no free value here. -/

namespace Sys2Proof.Config

/-- Good alignment marks to lock (R11). -/
@[simp] abbrev marksToLock : Nat := 8
/-- Bad symbols that lose lock (R12). -/
@[simp] abbrev badToUnlock : Nat := 4
/-- The largest value of the 16-bit saturating counts. -/
@[simp] abbrev count16Max : Nat := 65535
/-- The largest value of the 8-bit saturating counts. -/
@[simp] abbrev count8Max : Nat := 255
/-- The cells of one block of capture memory (R72). -/
@[simp] abbrev cellsPerBlock : Nat := 256
/-- The blocks of capture memory (R72). -/
@[simp] abbrev blocks : Nat := 64
/-- The slots of one full segment (R104). -/
@[simp] abbrev slotsPerSegment : Nat := 16
/-- The frames the stream queue holds (R114). -/
@[simp] abbrev streamQueueMax : Nat := 16
/-- The consecutive valid TRAIN frames that bring the link UP (R148). -/
@[simp] abbrev trainsToUp : Nat := 3
/-- The consecutive bad frames that bring the link DOWN (R150). -/
@[simp] abbrev badToDown : Nat := 16
/-- The largest upstream credit (R151). -/
@[simp] abbrev creditMax : Nat := 255
/-- The most requests unanswered at once (R158). -/
@[simp] abbrev unansweredMax : Nat := 8
/-- The smallest epoch period, in µs (R166). -/
@[simp] abbrev periodMin : Nat := 10

end Sys2Proof.Config
end

