-- ==== Sys2Proof/Machine/Types.lean ====
section
/-! DEFINITION. The entries, records and frames of the manual, as plain data: what the tables hold, what blocks hand
to one another, and what travels upstream. Field names are the manual's. -/

namespace Sys2Proof.Machine

/-! ### Epochs and lanes (chapter 1) -/

inductive TimerState where
  | stopped | running
  deriving DecidableEq, Repr

/-- The causes a close can have (Table 1-2). -/
inductive CloseCause where
  | complete | strobe | stop
  deriving DecidableEq, Repr

inductive LaneState where
  | off | seeking | locked
  deriving DecidableEq, Repr

/-- A Lane Receiver (R9). -/
structure Lane where
  state : LaneState
  goodRun : Nat
  badRun : Nat
  received : SlotSet
  wordsTaken : Nat
  lateWords : Nat
  deriving DecidableEq, Repr

/-! ### Channels and the epoch record (chapter 2) -/

inductive Coding where
  | bipolar | unipolar
  deriving DecidableEq, Repr

inductive Direction where
  | rising | falling | both
  deriving DecidableEq, Repr

/-- A channel table entry (Table 2-1). `offset` and `level` are signed. -/
structure ChannelEntry where
  enabled : Bool
  lane : Fin 4
  slot : Fin 8
  coding : Coding
  offset : Value
  invert : Bool
  level : Value
  hysteresis : Nat
  direction : Direction
  forward : Bool
  divisor : Nat
  deriving DecidableEq, Repr

inductive CrossingState where
  | unknown | above | below
  deriving DecidableEq, Repr

/-- A channel runtime record (Table 2-5). -/
structure ChannelRuntime where
  previous : Option Value
  crossing : CrossingState
  cycleCount : BitVec 16
  lastCrossing : Option Epoch
  lastPeriod : Option (BitVec 32)
  peakMax : Option Value
  peakMin : Option Value
  deriving DecidableEq, Repr

/-- One channel's group of fields in an epoch record (Table 2-3). The channel is present exactly when `value` is. -/
structure ChannelField where
  value : Option Value
  crossed : Bool
  delta : Option Int
  deriving DecidableEq, Repr

/-- Table 2-3's present field: the value field is there exactly when it is yes. -/
@[simp] abbrev ChannelField.present (f : ChannelField) : Bool := f.value.isSome

/-- An epoch record (Table 2-3). -/
structure EpochRecord where
  epoch : Epoch
  fields : Table ChannelField 16
  deriving DecidableEq, Repr

/-- A record offered to a consumer and not yet taken (R34), with the number of soft resets the Epoch Timer had taken
when it was built: the run it belongs to (R35; log entry 2). -/
structure Offered where
  run : Nat
  record : EpochRecord
  deriving DecidableEq, Repr

/-! ### Conditions and triggers (chapters 3 and 4) -/

inductive Test where
  | above | below | inside | outside | crossed | rise | fall | absent
  deriving DecidableEq, Repr

/-- An action of a condition entry (Table 3-4). -/
inductive Action where
  | next
  | skip (k : Fin 16)
  | fire (t : Fin 8)
  | fireEnd (t : Fin 8)
  | endWalk
  deriving DecidableEq, Repr

/-- A condition list entry (Table 3-2). -/
structure ConditionEntry where
  inUse : Bool
  test : Test
  channel : Fin 16
  levelA : Fin 32
  levelB : Fin 32
  onTrue : Action
  onFalse : Action
  deriving DecidableEq, Repr

/-- A trigger table entry (Table 4-2); the target NONE is `none`. -/
structure TriggerEntry where
  target : Option (Fin 4)
  holdOff : Nat
  deriving DecidableEq, Repr

/-- A trigger runtime record (Table 4-3). -/
structure TriggerRuntime where
  remaining : Nat
  fires : Nat
  suppressed : Nat
  missed : Nat
  lastFire : Option Epoch
  deriving DecidableEq, Repr

/-- One bank of the three banked tables (Table 8-1). -/
structure Bank where
  levels : Table Value 32
  list : Table ConditionEntry 64
  triggers : Table TriggerEntry 8
  deriving DecidableEq, Repr

inductive CommitState where
  | none | pending
  deriving DecidableEq, Repr

/-- A fire request on its way to the Capture Controller (R65). `unit` is the target it is addressed to; `waiter` names
the FIRE request waiting for the answer, absent for a walk fire (R69; log entry 2). -/
structure FireRequest where
  unit : Fin 4
  trigger : Fin 8
  epoch : Epoch
  generation : BitVec 16
  forced : Bool
  waiter : Option Nat
  deriving DecidableEq, Repr

/-- The four answers of a unit (R84). -/
inductive Answer where
  | started | truncated | retriggered | missed
  deriving DecidableEq, Repr

/-- An answer on its way to the Condition Engine (R65, R66). -/
structure FireAnswer where
  trigger : Fin 8
  answer : Answer
  waiter : Option Nat
  deriving DecidableEq, Repr

/-! ### Capture units (chapter 5) -/

inductive PostMode where
  | epochs | cycles
  deriving DecidableEq, Repr

inductive Retrigger where
  | ignore | extend
  deriving DecidableEq, Repr

inductive HandOff where
  | auto | retain
  deriving DecidableEq, Repr

inductive AfterRelease where
  | oneShot | rearm
  deriving DecidableEq, Repr

/-- A unit configuration entry (Table 5-2). -/
structure UnitConfig where
  inUse : Bool
  firstBlock : Nat
  blockCount : Nat
  mask : ChannelSet
  pre : Nat
  postMode : PostMode
  postLength : Nat
  guard : Nat
  reference : Fin 16
  retrigger : Retrigger
  handOff : HandOff
  afterRelease : AfterRelease
  deriving DecidableEq, Repr

inductive UnitState where
  | idle | filling | armed | post | held | draining | delivered
  deriving DecidableEq, Repr

/-- A ring slot (R77): one entry per mask channel in increasing channel order, the value or the absent mark. -/
structure Slot where
  epoch : Epoch
  values : List (Fin 16 × Option Value)
  mark : Bool
  deriving DecidableEq, Repr

inductive EndReason where
  | complete | cycleTimeout | depthLimit
  deriving DecidableEq, Repr

/-- What a freeze settles (R91). -/
structure Settled where
  postActual : Nat
  endReason : EndReason
  gaps : Bool
  deriving DecidableEq, Repr

/-- A capture record (Table 5-6); the three fields set at the freeze stand in `settled`, absent before it. -/
structure CaptureRecord where
  number : BitVec 16
  unit : Fin 4
  trigger : Fin 8
  forced : Bool
  triggerEpoch : Epoch
  generation : BitVec 16
  mask : ChannelSet
  preActual : Nat
  truncated : Bool
  retriggers : Nat
  settled : Option Settled
  deriving DecidableEq, Repr

/-- A unit runtime record and its ring, oldest slot first (R76, R77). -/
structure UnitRuntime where
  state : UnitState
  startEpoch : Option Epoch
  ring : List Slot
  record : Option CaptureRecord
  postEnd : Option Epoch
  countFrom : Option Epoch
  crossings : Nat
  attempt : Option Nat
  deriving DecidableEq, Repr

/-! ### Upstream frames (chapters 6, 7, 9, 11) -/

inductive EndOutcome where
  | complete | aborted
  deriving DecidableEq, Repr

/-- A capture frame with its content (R103 to R105). -/
inductive CaptureFrame where
  | header (record : CaptureRecord) (attempt : Nat) (postMode : PostMode)
  | segment (number : BitVec 16) (unit : Fin 4) (index : Nat) (slots : List Slot)
  | finish (number : BitVec 16) (unit : Fin 4) (segments : Nat) (outcome : EndOutcome)
  deriving DecidableEq, Repr

/-- A stream frame (Table 7-2): the included channels in increasing order with their values. -/
structure StreamFrame where
  epoch : Epoch
  sequence : BitVec 16
  gapCount : Nat
  values : List (Fin 16 × Option Value)
  deriving DecidableEq, Repr

/-- An ALERT frame (R137, R139). -/
structure AlertFrame where
  sequence : BitVec 8
  repeatCount : Nat
  sources : AlertSet
  deriving DecidableEq, Repr

/-- The ten statuses (Table 11-5a). -/
inductive Status where
  | ok | busy | badIndex | badValue | badTable | readOnly | overlap | wrongState | stale | unknownKind
  deriving DecidableEq, Repr

/-- The ten tables of READ and WRITE (Table 11-3). -/
inductive TableName where
  | control | channel | channelRuntime | level | condition | trigger | triggerRuntime | unit | unitStatus
  | laneStatus
  deriving DecidableEq, Repr

inductive BankName where
  | edit | live
  deriving DecidableEq, Repr

/-- The control record (Table 11-5). -/
structure ControlRecord where
  period : BitVec 16
  lanes : LaneSet
  alerts : AlertSet
  streamEnable : Bool
  deriving DecidableEq, Repr

/-- The readable part of a unit runtime (Table 5-3): no ring values. -/
structure UnitStatusEntry where
  state : UnitState
  slotCount : Nat
  startEpoch : Option Epoch
  oldest : Option Epoch
  newest : Option Epoch
  postEnd : Option Epoch
  countFrom : Option Epoch
  crossings : Nat
  attempt : Option Nat
  record : Option CaptureRecord
  deriving DecidableEq, Repr

/-- A LANE-STATUS entry: all of R9 but the received-slot set. -/
structure LaneStatusEntry where
  state : LaneState
  goodRun : Nat
  badRun : Nat
  wordsTaken : Nat
  lateWords : Nat
  deriving DecidableEq, Repr

/-- An entry of one of the ten tables, as a READ returns it. -/
inductive TableEntry where
  | control (r : ControlRecord)
  | channel (e : ChannelEntry)
  | channelRuntime (r : ChannelRuntime)
  | level (v : Value)
  | condition (e : ConditionEntry)
  | trigger (e : TriggerEntry)
  | triggerRuntime (r : TriggerRuntime)
  | unit (c : UnitConfig)
  | unitStatus (u : UnitStatusEntry)
  | laneStatus (l : LaneStatusEntry)
  deriving DecidableEq, Repr

inductive LinkState where
  | down | training | up
  deriving DecidableEq, Repr

inductive AlertState where
  | quiet | outstanding
  deriving DecidableEq, Repr

/-- The content of a STATUS reply (Table 11-6). -/
structure StatusSummary where
  timer : TimerState
  lastClosed : Option Epoch
  units : Table UnitState 4
  drainQueue : List (Fin 4)
  commit : CommitState
  generation : BitVec 16
  link : LinkState
  credit : Nat
  alert : AlertState
  alertSequence : BitVec 8
  outstanding : Option (BitVec 8)
  otherUnanswered : Nat
  deriving DecidableEq, Repr

/-- The content of an OK reply (Table 11-4); a reply of any other status carries `nothing`. -/
inductive ReplyContent where
  | nothing
  | read (table : TableName) (index : Byte) (bank : BankName) (entry : TableEntry)
  | wrote (table : TableName) (index : Byte)
  | commit (generation : BitVec 16) (fromEpoch : Epoch)
  | generation (generation : BitVec 16)
  | unit (u : Fin 4)
  | fire (t : Fin 8) (answer : Option Answer) (epoch : Epoch)
  | acknowledged (sequence : BitVec 8)
  | status (s : StatusSummary)
  | voids (count : Nat)
  deriving DecidableEq, Repr

/-- A reply (R161). `kind` is the request kind byte as received. -/
structure Reply where
  tag : Byte
  kind : Byte
  status : Status
  content : ReplyContent
  deriving DecidableEq, Repr

/-- A request as handed over by the Link Controller: header byte 1, the four leading body bytes and the rest of the
body (Table 12-3). -/
structure Request where
  tag : Byte
  kind : Byte
  operand : Byte
  index : Byte
  options : Byte
  payload : List Byte
  deriving DecidableEq, Repr

/-- An upstream frame (Table 12-2). -/
inductive UpFrame where
  | train (run : Nat)
  | reply (r : Reply)
  | alert (a : AlertFrame)
  | capture (c : CaptureFrame)
  | stream (f : StreamFrame)
  deriving DecidableEq, Repr

/-- The sources of upstream frames: the four of Table 10-3, and training (R147). -/
inductive Source where
  | training | reply | alert | delivery | stream
  deriving DecidableEq, Repr

/-- Whether an offered frame has started (R98, R114, R135). -/
inductive Mark where
  | offered | inTransmission
  deriving DecidableEq, Repr

/-! ### What the Link Controller reports to a block (R146) -/

/-- An event the Link Controller hands to a block; each block takes them in the order they were handed over. A
completion is marked void when its source has given the frame up at a soft reset or a link loss (log entry 3). Only
the Management Engine is handed requests. -/
inductive LinkReport where
  | linkLoss
  | completion (void : Bool)
  | request (r : Request)
  deriving DecidableEq, Repr

/-! ### Parts of single blocks -/

/-- The frame in transmission and the source that offered it (R144). `void`: the source has given it up. -/
structure Transmission where
  frame : UpFrame
  source : Source
  void : Bool
  deriving DecidableEq, Repr

/-- The drain position (R98). -/
inductive DrainPosition where
  | header
  | segment (k : Nat)
  | finish (outcome : EndOutcome)
  deriving DecidableEq, Repr

/-- A drain in progress (R98), with the content of its current frame (R102). -/
structure Drain where
  unit : Fin 4
  position : DrainPosition
  mark : Mark
  frame : CaptureFrame
  segmentsDone : Nat
  cut : Bool
  deriving DecidableEq, Repr

/-- The Alert Unit's offer (R135). -/
inductive Offer where
  | none
  | newAlert (mark : Mark)
  | repeatAlert (mark : Mark)
  deriving DecidableEq, Repr

/-- The fields of a channel entry the Stream Forwarder reads (R115). -/
structure StreamView where
  enabled : Bool
  forward : Bool
  divisor : Nat
  deriving DecidableEq, Repr

/-- A reload handed to the Stream Forwarder by an accepted channel write (R116): the written divisor, what the
Stream Forwarder reads of the entry the write replaced, and how many of the records still waiting there were built
before the write. -/
structure Reload where
  channel : Fin 16
  divisor : Nat
  replaced : StreamView
  before : Nat
  deriving DecidableEq, Repr

/-- The Management Engine's execution state (R157); the void count of R168 waits in AWAIT-RESET, and AWAIT-ANSWER
keeps what names the awaited answer (R69). -/
inductive ExecState where
  | idle
  | awaitAnswer (waiter : Nat) (trigger : Fin 8) (epoch : Epoch)
  | awaitReset (voids : Nat)
  deriving DecidableEq, Repr

/-- The rows of the table that execute a request, one class of requests each (R159, Table 11-2). -/
inductive RequestRow where
  | read | readChannelRuntime | write | writeControl | writeChannel | writeLevel | writeCondition | writeTrigger
  | writeUnit | commit | discardEdits | epochStart | epochStop | arm | abort | release | replay | fire | alertAck
  | status | reset | unknownKind
  deriving DecidableEq, Repr

/-! ### Cold-reset entries -/

/-- Table 2-1, cold-reset column. -/
def ChannelEntry.cold : ChannelEntry :=
  { enabled := false, lane := 0, slot := 0, coding := .bipolar, offset := 0, invert := false, level := 0,
    hysteresis := 0, direction := .rising, forward := false, divisor := 1 }

/-- Table 2-5, cold and soft reset. -/
def ChannelRuntime.cleared : ChannelRuntime :=
  { previous := none, crossing := .unknown, cycleCount := 0, lastCrossing := none, lastPeriod := none,
    peakMax := none, peakMin := none }

/-- R9, cold reset. -/
def Lane.cold : Lane :=
  { state := .off, goodRun := 0, badRun := 0, received := 0, wordsTaken := 0, lateWords := 0 }

/-- Table 3-2, cold-reset column. -/
def ConditionEntry.cold : ConditionEntry :=
  { inUse := false, test := .above, channel := 0, levelA := 0, levelB := 0, onTrue := .endWalk, onFalse := .endWalk }

/-- Table 4-2, cold-reset column. -/
def TriggerEntry.cold : TriggerEntry := { target := none, holdOff := 0 }

/-- Table 4-3, cold and soft reset. -/
def TriggerRuntime.cleared : TriggerRuntime :=
  { remaining := 0, fires := 0, suppressed := 0, missed := 0, lastFire := none }

/-- Table 8-1, cold-reset entries. -/
def Bank.cold : Bank :=
  { levels := Vector.replicate 32 0, list := Vector.replicate 64 ConditionEntry.cold,
    triggers := Vector.replicate 8 TriggerEntry.cold }

/-- Table 5-2, cold reset. -/
def UnitConfig.cold : UnitConfig :=
  { inUse := false, firstBlock := 0, blockCount := 0, mask := 0, pre := 0, postMode := .epochs, postLength := 0,
    guard := 0, reference := 0, retrigger := .ignore, handOff := .auto, afterRelease := .oneShot }

/-- Table 5-3, cold and soft reset. -/
def UnitRuntime.cleared : UnitRuntime :=
  { state := .idle, startEpoch := none, ring := [], record := none, postEnd := none, countFrom := none,
    crossings := 0, attempt := none }

/-- Table 11-5, cold reset. -/
def ControlRecord.cold : ControlRecord :=
  { period := 1000, lanes := 0, alerts := 0x7F, streamEnable := false }

/-- The fields of an entry that the Stream Forwarder reads. -/
def ChannelEntry.streamView (e : ChannelEntry) : StreamView :=
  { enabled := e.enabled, forward := e.forward, divisor := e.divisor }

end Sys2Proof.Machine
end

