-- ==== Sys2Proof/Machine/State.lean ====
section
/-! DEFINITION. The state of the part: one structure per block with everything the manual gives it, what blocks have
handed to one another and not yet taken, and the queue of commands. `State.reset` is the state after cold reset. -/

namespace Sys2Proof.Machine

/-- No event of the manual stops the part, so there is no fault. -/
inductive Fault where
  deriving DecidableEq, Repr

/-- The refusals of the model. -/
inductive Refusal where
  /-- Raised by an arm of `exec` that has no meaning yet: no arm does. Safe: the run stops. -/
  | notModelled (mnemonic : String)
  deriving DecidableEq, Repr

/-- Table 1-1. `periodTimer` is stopped (`none`) or running with the loaded period; `strobe` is the tag of the
pulse driven last on the convert strobe line; `resetsTaken` counts the soft resets taken (log entry 2). -/
structure EpochTimer where
  state : TimerState
  nextEpoch : Epoch
  openEpoch : Option Epoch
  participating : LaneSet
  lastClosed : Option Epoch
  periodTimer : Option (BitVec 16)
  strobe : Option (BitVec 4)
  resetsTaken : Nat
  deriving DecidableEq, Repr

/-- The Channel Processor (R19, R23, Table 2-5). -/
structure ChannelProcessor where
  table : Table ChannelEntry 16
  openValues : Table (Option (BitVec 16)) 16
  runtime : Table ChannelRuntime 16
  resetsTaken : Nat
  deriving DecidableEq, Repr

/-- The Condition Engine (chapters 3, 4 and 8), with the records offered to it and the answers on their way to it. -/
structure ConditionEngine where
  edit : Bank
  live : Bank
  triggers : Table TriggerRuntime 8
  commit : CommitState
  generation : BitVec 16
  nextWalk : Epoch
  records : List Offered
  answers : List FireAnswer
  resetsTaken : Nat
  deriving DecidableEq, Repr

/-- The Capture Controller (chapter 5, R98), with the records offered to it and the fire requests on their way. -/
structure CaptureController where
  configs : Table UnitConfig 4
  units : Table UnitRuntime 4
  number : BitVec 16
  nextRecord : Epoch
  drainQueue : List (Fin 4)
  records : List Offered
  fires : List FireRequest
  resetsTaken : Nat
  deriving DecidableEq, Repr

/-- The Delivery Engine (R98): BUSY exactly when a drain is present. -/
structure DeliveryEngine where
  drain : Option Drain
  inbox : List LinkReport
  resetsTaken : Nat
  deriving DecidableEq, Repr

/-- The Stream Forwarder (Table 7-1). -/
structure StreamForwarder where
  counters : Table Nat 16
  queue : List StreamFrame
  headMark : Mark
  sequence : BitVec 16
  gapCount : Nat
  records : List Offered
  reloads : List Reload
  inbox : List LinkReport
  resetsTaken : Nat
  deriving DecidableEq, Repr

/-- The Alert Unit (Table 9-2), with the raises handed to it and not yet taken. -/
structure AlertUnit where
  pending : AlertSet
  reported : AlertSet
  state : AlertState
  sequence : BitVec 8
  outstanding : Option (BitVec 8)
  repeatCount : Nat
  timerRunning : Bool
  offer : Offer
  sent : AlertSet
  reRaised : AlertSet
  raises : List AlertSource
  inbox : List LinkReport
  resetsTaken : Nat
  deriving DecidableEq, Repr

/-- The Link Controller (Table 10-1): the transmitter is BUSY exactly when a transmission is present. -/
structure LinkController where
  state : LinkState
  trainRun : Nat
  badRun : Nat
  credit : Nat
  tx : Option Transmission
  deriving DecidableEq, Repr

/-- The Management Engine (Table 11-1). `deferred` holds the tag of a COMMIT's reply; `inTransmission` lists
the replies started and not yet completed, oldest first (log entry 3); `resetsIssued` and `nextWaiter` are the model's
(log entry 2). -/
structure ManagementEngine where
  requests : List Request
  exec : ExecState
  replies : List Reply
  inTransmission : List Reply
  deferred : Option Byte
  unanswered : Nat
  control : ControlRecord
  inbox : List LinkReport
  resetsIssued : Nat
  nextWaiter : Nat
  deriving DecidableEq, Repr

/-- The part. -/
structure State where
  timer : EpochTimer
  lanes : Table Lane 4
  channels : ChannelProcessor
  conditions : ConditionEngine
  capture : CaptureController
  delivery : DeliveryEngine
  stream : StreamForwarder
  alerts : AlertUnit
  link : LinkController
  mgmt : ManagementEngine
  pending : List Instr
  deriving DecidableEq, Repr

/-! ### Cold reset of each block -/

/-- R1. -/
def EpochTimer.cold : EpochTimer :=
  { state := .stopped, nextEpoch := 0, openEpoch := none, participating := 0, lastClosed := none,
    periodTimer := none, strobe := none, resetsTaken := 0 }

/-- R19, R36. -/
def ChannelProcessor.cold : ChannelProcessor :=
  { table := Vector.replicate 16 ChannelEntry.cold, openValues := Vector.replicate 16 none,
    runtime := Vector.replicate 16 ChannelRuntime.cleared, resetsTaken := 0 }

/-- R58, R71, R134. -/
def ConditionEngine.cold : ConditionEngine :=
  { edit := Bank.cold, live := Bank.cold, triggers := Vector.replicate 8 TriggerRuntime.cleared, commit := .none,
    generation := 0, nextWalk := 0, records := [], answers := [], resetsTaken := 0 }

/-- R97. -/
def CaptureController.cold : CaptureController :=
  { configs := Vector.replicate 4 UnitConfig.cold, units := Vector.replicate 4 UnitRuntime.cleared, number := 0,
    nextRecord := 0, drainQueue := [], records := [], fires := [], resetsTaken := 0 }

/-- R98, R113. -/
def DeliveryEngine.cold : DeliveryEngine := { drain := none, inbox := [], resetsTaken := 0 }

/-- R114, R122. -/
def StreamForwarder.cold : StreamForwarder :=
  { counters := Vector.replicate 16 1, queue := [], headMark := .offered, sequence := 0, gapCount := 0, records := [],
    reloads := [], inbox := [], resetsTaken := 0 }

/-- R135, R143. -/
def AlertUnit.cold : AlertUnit :=
  { pending := 0, reported := 0, state := .quiet, sequence := 0, outstanding := none, repeatCount := 0,
    timerRunning := false, offer := .none, sent := 0, reRaised := 0, raises := [], inbox := [], resetsTaken := 0 }

/-- R144, R156. -/
def LinkController.cold : LinkController :=
  { state := .down, trainRun := 0, badRun := 0, credit := 0, tx := none }

/-- R157. -/
def ManagementEngine.cold : ManagementEngine :=
  { requests := [], exec := .idle, replies := [], inTransmission := [], deferred := none, unanswered := 0,
    control := ControlRecord.cold, inbox := [], resetsIssued := 0, nextWaiter := 0 }

/-- The part after cold reset (section 0.7), with no command waiting. -/
def State.reset : State :=
  { timer := EpochTimer.cold, lanes := Vector.replicate 4 Lane.cold, channels := ChannelProcessor.cold,
    conditions := ConditionEngine.cold, capture := CaptureController.cold, delivery := DeliveryEngine.cold,
    stream := StreamForwarder.cold, alerts := AlertUnit.cold, link := LinkController.cold,
    mgmt := ManagementEngine.cold, pending := [] }

/-! ### One block replaced -/

def State.setTimer (s : State) (b : EpochTimer) : State := { s with timer := b }
def State.setLanes (s : State) (b : Table Lane 4) : State := { s with lanes := b }
def State.setChannels (s : State) (b : ChannelProcessor) : State := { s with channels := b }
def State.setConditions (s : State) (b : ConditionEngine) : State := { s with conditions := b }
def State.setCapture (s : State) (b : CaptureController) : State := { s with capture := b }
def State.setDelivery (s : State) (b : DeliveryEngine) : State := { s with delivery := b }
def State.setStream (s : State) (b : StreamForwarder) : State := { s with stream := b }
def State.setAlerts (s : State) (b : AlertUnit) : State := { s with alerts := b }
def State.setLink (s : State) (b : LinkController) : State := { s with link := b }
def State.setMgmt (s : State) (b : ManagementEngine) : State := { s with mgmt := b }
def State.setPending (s : State) (b : List Instr) : State := { s with pending := b }

end Sys2Proof.Machine
end

