-- ==== Sys2Proof/Machine/Flags.lean ====
section
/-! DEFINITION. The alert sources as flags: raising one, the Alert Unit's taking of a raise, and the test that offers or
withdraws a NEW alert (R136, R137, R141). -/

namespace Sys2Proof.Machine

/-- Table 12-5's bit of a source. -/
def AlertSource.bit : AlertSource → Fin 7
  | .captureDelivered => 0 | .triggerMissed => 1 | .sampleLate => 2 | .sampleMissing => 3 | .laneFault => 4
  | .streamGap => 5 | .linkProtocol => 6

/-- The set of one source. -/
def AlertSource.set (a : AlertSource) : AlertSet := single 7 (AlertSource.bit a)

/-- A block hands a source to the Alert Unit, which takes it as an event of its own (R136). -/
def raise (a : AlertSource) (s : State) : State :=
  s.setAlerts { s.alerts with raises := s.alerts.raises ++ [a] }

/-- The sources a NEW alert started now would carry (R137). -/
def AlertUnit.reportable (enable : AlertSet) (a : AlertUnit) : AlertSet := a.pending &&& enable

/-- R137 and R141: in QUIET with no offer and a pending enabled source a NEW alert is offered; a NEW alert still
OFFERED is withdrawn when no pending source is enabled. -/
def AlertUnit.settle (enable : AlertSet) (a : AlertUnit) : AlertUnit :=
  if a.state = .quiet ∧ a.offer = .none ∧ a.reportable enable ≠ 0 then { a with offer := .newAlert .offered }
  else if a.offer = .newAlert .offered ∧ a.reportable enable = 0 then { a with offer := .none }
  else a

/-- R137 applied at the enable set of the control record. -/
def settleAlerts (s : State) : State := s.setAlerts (s.alerts.settle s.mgmt.control.alerts)

/-- The Alert Unit takes a raise (R136): the source joins the pending set, and the re-raised set when a NEW alert
that carries it is in transmission. -/
def AlertUnit.take (src : AlertSource) (a : AlertUnit) : AlertUnit :=
  { a with
    pending := a.pending ||| AlertSource.set src
    reRaised := if a.offer = .newAlert .inTransmission ∧ has a.sent (AlertSource.bit src) then
        a.reRaised ||| AlertSource.set src else a.reRaised
    raises := a.raises.erase src }

end Sys2Proof.Machine
end

