-- ==== Sys2Proof/WellFormed.lean ====
section
/-! DEFINITION. The static check of a command. The operand types carry every range of the manual but one: the
length of a REQUEST body. -/

namespace Sys2Proof

/-- The body lengths a REQUEST may have (Table 12-2, R171). -/
def requestLengths : List Nat := [4, 6, 8, 10, 14, 16, 20]

/-- A command is well formed: a REQUEST frame's body has one of the seven lengths. -/
def Instr.wellFormed : Instr → Bool
  | .requestFrame _ body => requestLengths.contains body.length
  | .coldReset | .epochStart | .epochStop | .periodExpiry | .laneWord _ _ _ _ | .alignmentMark _ | .badSymbol _
  | .laneLossOfSignal _ | .walk | .fireRequest | .fireAnswer | .captureRecordTake | .streamRecordTake
  | .decimationReload | .streamFrameCompletion | .drainStart | .captureFrameCompletion | .alertRaise _
  | .alertFrameCompletion | .reAnnounceTimerExpiry | .signalDetected | .linkLossOfSignal | .trainFrame
  | .creditFrame _ | .badFrame | .transmissionCompletion _ | .requestArrival | .replyCompletion
  | .linkLossManagement | .linkLossDelivery | .linkLossStream | .linkLossAlert | .read | .readChannelRuntime
  | .write | .writeControl | .writeChannel | .writeLevel | .writeCondition | .writeTrigger | .writeUnit | .commit
  | .discardEdits | .arm | .abort | .release | .replay | .fire | .alertAck | .status | .unknownKind | .reset
  | .softResetDone | .softResetEpochTimer | .softResetChannelProcessor | .softResetConditionEngine
  | .softResetCaptureController | .softResetDeliveryEngine | .softResetStreamForwarder | .softResetAlertUnit => true

end Sys2Proof
end

