-- ==== Sys2Proof/Machine/Operands.lean ====
section
/-! DEFINITION. The operand forms: frames, lane symbols and requests read from their bytes, and table entries in the
layouts of Table 12-8, read and written (R171, R172, R175, R176, R177). -/

namespace Sys2Proof.Machine

/-! ### Bytes -/

/-- Two bytes, most significant first. -/
def word16 (hi lo : Byte) : BitVec 16 := hi ++ lo

/-- The two bytes of a 16-bit number, most significant first. -/
def bytes16 (x : BitVec 16) : List Byte := [x.extractLsb' 8 8, x.extractLsb' 0 8]

/-- The four bytes of a 32-bit number, most significant first. -/
def bytes32 (x : BitVec 32) : List Byte :=
  [x.extractLsb' 24 8, x.extractLsb' 16 8, x.extractLsb' 8 8, x.extractLsb' 0 8]

/-- A count in one byte. -/
def byteOf (n : Nat) : Byte := BitVec.ofNat 8 n

/-- A count in two bytes. -/
def countBytes (n : Nat) : List Byte := bytes16 (BitVec.ofNat 16 n)

/-- A yes or no field at a bit of a flags byte. -/
def flag (bit : Nat) (b : Bool) : Byte := if b then BitVec.twoPow 8 bit else 0

/-- An optional 16-bit field: an absent one is carried as zero (R171). -/
def optional16 (v : Option (BitVec 16)) : List Byte := bytes16 (v.getD 0)

/-- An optional 32-bit field: an absent one is carried as zero (R171). -/
def optional32 (v : Option (BitVec 32)) : List Byte := bytes32 (v.getD 0)

/-- The number `k` as an index below `n`, if it is one. -/
def finOf (n k : Nat) : Option (Fin n) := if h : k < n then some ⟨k, h⟩ else none

/-- A check of a field: nothing when it fails. -/
def ensure (c : Bool) : Option Unit := if c then some () else none

/-! ### The cyclic checks (R171, R177) -/

/-- One bit of the 16-bit cyclic check with polynomial x^16 + x^12 + x^5 + 1. -/
def crc16Bit (c : BitVec 16) (bit : Bool) : BitVec 16 :=
  if c.msb ^^ bit then (c <<< 1) ^^^ 0x1021#16 else c <<< 1

/-- One bit of the 8-bit cyclic check with polynomial x^8 + x^2 + x + 1. -/
def crc8Bit (c : BitVec 8) (bit : Bool) : BitVec 8 :=
  if c.msb ^^ bit then (c <<< 1) ^^^ 0x07#8 else c <<< 1

/-- The bits of a byte, most significant first. -/
def bitsOf (b : Byte) : List Bool := [7, 6, 5, 4, 3, 2, 1, 0].map b.getLsbD

/-- The frame check over the header and body: initial value FFFFh, no final inversion (R171). -/
def frameCheck (bytes : List Byte) : BitVec 16 :=
  bytes.foldl (fun c b => (bitsOf b).foldl crc16Bit c) 0xFFFF#16

/-- The integrity check of a lane symbol: initial value 00h (R177). -/
def laneCheck (bytes : List Byte) : BitVec 8 :=
  bytes.foldl (fun c b => (bitsOf b).foldl crc8Bit c) 0#8

/-! ### Lane symbols (R176, R177) -/

/-- The command a received lane symbol is: a bad symbol when the check fails, else a mark or a word by its type bit. -/
def laneSymbol (lane : Fin 4) (b0 b1 b2 b3 : Byte) : Instr :=
  if laneCheck [b0, b1, b2] = b3 then
    if b0.msb then .alignmentMark lane
    else .laneWord lane (b0.extractLsb' 3 4) (b0.extractLsb' 0 3).toFin (word16 b1 b2)
  else .badSymbol lane

/-- The four bytes of a lane word (R176), as a converter sends it. -/
def laneWordBytes (tag : BitVec 4) (slot : Fin 8) (raw : BitVec 16) : List Byte :=
  let b0 : Byte := (0#1 ++ tag) ++ (BitVec.ofFin slot : BitVec 3)
  let body := b0 :: bytes16 raw
  body ++ [laneCheck body]

/-! ### Downstream frames (R150, R171) -/

/-- The command a received downstream frame is, from its whole bytes. -/
def downstreamFrame (bytes : List Byte) : Instr :=
  match bytes with
  | kind :: tag :: l1 :: l2 :: rest =>
    let n := (word16 l1 l2).toNat
    let body := rest.take n
    if rest.length = n + 2 ∧ bytes16 (frameCheck (kind :: tag :: l1 :: l2 :: body)) = rest.drop n then
      if kind = 0x01#8 ∧ n = 4 then .trainFrame
      else if kind = 0x02#8 ∧ requestLengths.contains n then .requestFrame tag body
      else if kind = 0x03#8 ∧ n = 2 then .creditFrame (body.headD 0)
      else .badFrame
    else .badFrame
  | _ => .badFrame

/-! ### Requests (R172, Tables 12-3 and 12-4) -/

/-- A REQUEST body as the request it carries; a body shorter than four bytes carries none. -/
def Request.ofBody (tag : Byte) : List Byte → Option Request
  | kind :: operand :: index :: options :: payload =>
    some { tag := tag, kind := kind, operand := operand, index := index, options := options, payload := payload }
  | _ => none

/-- Table 12-4's codes. -/
def TableName.code : TableName → Byte
  | .control => 0x00 | .channel => 0x01 | .channelRuntime => 0x02 | .level => 0x03 | .condition => 0x04
  | .trigger => 0x05 | .triggerRuntime => 0x06 | .unit => 0x07 | .unitStatus => 0x08 | .laneStatus => 0x09

/-- The table a code names, if any (R172). -/
def tableOf (code : Byte) : Option TableName :=
  match code.toNat with
  | 0 => some .control | 1 => some .channel | 2 => some .channelRuntime | 3 => some .level | 4 => some .condition
  | 5 => some .trigger | 6 => some .triggerRuntime | 7 => some .unit | 8 => some .unitStatus
  | 9 => some .laneStatus | _ => none

/-- The table a READ or WRITE names. -/
def Request.table (r : Request) : Option TableName := tableOf r.operand

/-- The bank a READ names: bits 1 and 0 of the options (Table 12-3). -/
def Request.bank (r : Request) : Option BankName :=
  match (r.options.extractLsb' 0 2).toNat with
  | 0 => some .edit | 1 => some .live | _ => none

/-- The clear option of a READ: bit 2 of the options (Table 12-3). -/
def Request.clear (r : Request) : Bool := r.options.getLsbD 2

/-- The row that executes a request (R159, R172). -/
def Request.row (r : Request) : RequestRow :=
  match r.kind.toNat with
  | 0x01 => match r.table with
    | some .channelRuntime => .readChannelRuntime
    | _ => .read
  | 0x02 => match r.table with
    | some .control => .writeControl
    | some .channel => .writeChannel
    | some .level => .writeLevel
    | some .condition => .writeCondition
    | some .trigger => .writeTrigger
    | some .unit => .writeUnit
    | _ => .write
  | 0x03 => .commit
  | 0x04 => .discardEdits
  | 0x05 => .epochStart
  | 0x06 => .epochStop
  | 0x07 => .arm
  | 0x08 => .abort
  | 0x09 => .release
  | 0x0A => .replay
  | 0x0B => .fire
  | 0x0C => .alertAck
  | 0x0D => .status
  | 0x0E => .reset
  | _ => .unknownKind

/-! ### Codes of the kind fields (Table 12-8) -/

def Coding.code : Coding → Byte
  | .bipolar => 0 | .unipolar => 1

def codingOf (b : Byte) : Option Coding :=
  match b.toNat with
  | 0 => some .bipolar | 1 => some .unipolar | _ => none

def Direction.code : Direction → Byte
  | .rising => 0 | .falling => 1 | .both => 2

def directionOf (b : Byte) : Option Direction :=
  match b.toNat with
  | 0 => some .rising | 1 => some .falling | 2 => some .both | _ => none

def CrossingState.code : CrossingState → Byte
  | .unknown => 0 | .above => 1 | .below => 2

def Test.code : Test → Byte
  | .above => 0 | .below => 1 | .inside => 2 | .outside => 3 | .crossed => 4 | .rise => 5 | .fall => 6 | .absent => 7

def testOf (b : Byte) : Option Test :=
  match b.toNat with
  | 0 => some .above | 1 => some .below | 2 => some .inside | 3 => some .outside | 4 => some .crossed
  | 5 => some .rise | 6 => some .fall | 7 => some .absent | _ => none

/-- An action's kind byte and operand byte. -/
def Action.bytes : Action → List Byte
  | .next => [0x00, 0] | .skip k => [0x01, byteOf k] | .fire t => [0x02, byteOf t] | .fireEnd t => [0x03, byteOf t]
  | .endWalk => [0x04, 0]

/-- An action from its kind and operand bytes: a SKIP distance of 0 and a trigger above 7 are not legal (R41). -/
def actionOf (kind operand : Byte) : Option Action :=
  match kind.toNat with
  | 0 => some .next
  | 1 => if operand.extractLsb' 0 4 = 0 then none else some (.skip (operand.extractLsb' 0 4).toFin)
  | 2 => (finOf 8 operand.toNat).map .fire
  | 3 => (finOf 8 operand.toNat).map .fireEnd
  | 4 => some .endWalk
  | _ => none

def PostMode.code : PostMode → Byte
  | .epochs => 0 | .cycles => 1

def postModeOf (b : Byte) : Option PostMode :=
  match b.toNat with
  | 0 => some .epochs | 1 => some .cycles | _ => none

def Retrigger.code : Retrigger → Byte
  | .ignore => 0 | .extend => 1

def retriggerOf (b : Byte) : Option Retrigger :=
  match b.toNat with
  | 0 => some .ignore | 1 => some .extend | _ => none

def HandOff.code : HandOff → Byte
  | .auto => 0 | .retain => 1

def handOffOf (b : Byte) : Option HandOff :=
  match b.toNat with
  | 0 => some .auto | 1 => some .retain | _ => none

def AfterRelease.code : AfterRelease → Byte
  | .oneShot => 0 | .rearm => 1

def afterReleaseOf (b : Byte) : Option AfterRelease :=
  match b.toNat with
  | 0 => some .oneShot | 1 => some .rearm | _ => none

def UnitState.code : UnitState → Byte
  | .idle => 0 | .filling => 1 | .armed => 2 | .post => 3 | .held => 4 | .draining => 5 | .delivered => 6

def LaneState.code : LaneState → Byte
  | .off => 0 | .seeking => 1 | .locked => 2

/-! ### Units: the checks of an entry (R72, R74, R75) -/

/-- The channels of a set, in increasing order. -/
def channelsOf (m : ChannelSet) : List (Fin 16) := (List.finRange 16).filter fun c => has m c

/-- The depth D of a unit's ring (R72). -/
def UnitConfig.depth (c : UnitConfig) : Nat :=
  Config.cellsPerBlock * c.blockCount / (channelsOf c.mask).length

/-- Every field within its stored values (Table 5-2, second column). -/
def UnitConfig.stored (c : UnitConfig) : Bool :=
  c.firstBlock ≤ 63 && c.blockCount ≤ 64 && c.pre ≤ 4095 && c.postLength ≤ 4095 && c.guard ≤ 4095

/-- The requirements of an entry in use: Table 5-2's third column, and the window within the depth (R75). -/
def UnitConfig.usable (c : UnitConfig) : Bool :=
  c.firstBlock + c.blockCount ≤ Config.blocks && 1 ≤ c.blockCount && c.mask != 0 &&
    match c.postMode with
    | .epochs => decide (c.pre + 1 + c.postLength ≤ c.depth)
    | .cycles => 1 ≤ c.postLength && c.postLength ≤ 255 && 1 ≤ c.guard && c.pre + 1 + c.guard ≤ c.depth

/-! ### Entries: layouts of Table 12-8 -/

/-- CONTROL: period, lane enable set, alert enable set, options, reserved. -/
def ControlRecord.bytes (r : ControlRecord) : List Byte :=
  bytes16 r.period ++ [r.lanes.setWidth 8, r.alerts.setWidth 8, flag 0 r.streamEnable, 0]

/-- A CONTROL payload; the period must be 10 or more (R166). -/
def controlOf : List Byte → Option ControlRecord
  | [p1, p0, lanes, alerts, options, _] =>
    let period := word16 p1 p0
    if period.toNat < Config.periodMin then none
    else some { period := period, lanes := lanes.setWidth 4, alerts := alerts.setWidth 7,
                streamEnable := options.getLsbD 0 }
  | _ => none

/-- CHANNEL. -/
def ChannelEntry.bytes (e : ChannelEntry) : List Byte :=
  [flag 0 e.enabled ||| flag 1 e.invert ||| flag 2 e.forward, byteOf (16 * e.lane + e.slot), e.coding.code,
    e.direction.code] ++ bytes16 e.offset ++ bytes16 e.level ++ countBytes e.hysteresis ++ countBytes e.divisor

/-- A CHANNEL payload, with the value checks of R20. -/
def channelOf : List Byte → Option ChannelEntry
  | [flags, source, coding, direction, o1, o0, l1, l0, h1, h0, d1, d0] => do
    let lane ← finOf 4 (source.extractLsb' 4 4).toNat
    let slot ← finOf 8 (source.extractLsb' 0 4).toNat
    let coding ← codingOf coding
    let direction ← directionOf direction
    let hysteresis := (word16 h1 h0).toNat
    let divisor := (word16 d1 d0).toNat
    ensure (hysteresis ≤ 4095 && 1 ≤ divisor && divisor ≤ 256)
    return { enabled := flags.getLsbD 0, lane := lane, slot := slot, coding := coding, offset := word16 o1 o0,
             invert := flags.getLsbD 1, level := word16 l1 l0, hysteresis := hysteresis, direction := direction,
             forward := flags.getLsbD 2, divisor := divisor }
  | _ => none

/-- CHANNEL-RUNTIME. -/
def ChannelRuntime.bytes (r : ChannelRuntime) : List Byte :=
  [flag 0 r.previous.isSome ||| flag 1 r.lastCrossing.isSome ||| flag 2 r.lastPeriod.isSome |||
    flag 3 r.peakMax.isSome ||| flag 4 r.peakMin.isSome, r.crossing.code] ++ optional16 r.previous ++
    bytes16 r.cycleCount ++ optional32 r.lastCrossing ++ optional32 r.lastPeriod ++ optional16 r.peakMax ++
    optional16 r.peakMin

/-- A LEVEL payload: every 16-bit value is legal (R40). -/
def levelOf : List Byte → Option Value
  | [v1, v0] => some (word16 v1 v0)
  | _ => none

/-- CONDITION. -/
def ConditionEntry.bytes (e : ConditionEntry) : List Byte :=
  [flag 0 e.inUse, e.test.code, byteOf e.channel, byteOf e.levelA, byteOf e.levelB] ++ e.onTrue.bytes ++
    e.onFalse.bytes ++ [0]

/-- A CONDITION payload, with the value checks of R41. -/
def conditionOf : List Byte → Option ConditionEntry
  | [flags, test, channel, a, b, tk, tv, fk, fv, _] => do
    let test ← testOf test
    let channel ← finOf 16 channel.toNat
    let levelA ← finOf 32 a.toNat
    let levelB ← finOf 32 b.toNat
    let onTrue ← actionOf tk tv
    let onFalse ← actionOf fk fv
    return { inUse := flags.getLsbD 0, test := test, channel := channel, levelA := levelA, levelB := levelB,
             onTrue := onTrue, onFalse := onFalse }
  | _ => none

/-- TRIGGER. -/
def TriggerEntry.bytes (e : TriggerEntry) : List Byte :=
  [match e.target with
    | some u => byteOf u
    | none => 0xFF, 0] ++ countBytes e.holdOff

/-- A TRIGGER payload, with the target check of R60. -/
def triggerOf : List Byte → Option TriggerEntry
  | [target, _, h1, h0] => do
    let target ← if target = 0xFF#8 then some none else (finOf 4 target.toNat).map some
    return { target := target, holdOff := (word16 h1 h0).toNat }
  | _ => none

/-- TRIGGER-RUNTIME. -/
def TriggerRuntime.bytes (r : TriggerRuntime) : List Byte :=
  [flag 0 r.lastFire.isSome, 0] ++ countBytes r.remaining ++ countBytes r.fires ++ countBytes r.suppressed ++
    countBytes r.missed ++ optional32 r.lastFire

/-- UNIT. -/
def UnitConfig.bytes (c : UnitConfig) : List Byte :=
  [flag 0 c.inUse, byteOf c.firstBlock, byteOf c.blockCount, c.postMode.code] ++ bytes16 c.mask ++
    countBytes c.pre ++ countBytes c.postLength ++ countBytes c.guard ++
    [byteOf c.reference, c.retrigger.code, c.handOff.code, c.afterRelease.code]

/-- A UNIT payload, with the value checks of R74: the stored values, and R75 for an entry in use. -/
def unitOf : List Byte → Option UnitConfig
  | [flags, first, count, mode, m1, m0, p1, p0, l1, l0, g1, g0, reference, retrigger, handOff, after] => do
    let postMode ← postModeOf mode
    let reference ← finOf 16 reference.toNat
    let retrigger ← retriggerOf retrigger
    let handOff ← handOffOf handOff
    let afterRelease ← afterReleaseOf after
    let c : UnitConfig :=
      { inUse := flags.getLsbD 0, firstBlock := first.toNat, blockCount := count.toNat, mask := word16 m1 m0,
        pre := (word16 p1 p0).toNat, postMode := postMode, postLength := (word16 l1 l0).toNat,
        guard := (word16 g1 g0).toNat, reference := reference, retrigger := retrigger, handOff := handOff,
        afterRelease := afterRelease }
    ensure (c.stored && (!c.inUse || c.usable))
    return c
  | _ => none

/-- The code of an end reason; 00h before the freeze (Table 12-7). -/
def EndReason.code : EndReason → Byte
  | .complete => 1 | .cycleTimeout => 2 | .depthLimit => 3

/-- The capture record block (Table 12-7). -/
def CaptureRecord.bytes (r : CaptureRecord) : List Byte :=
  bytes16 r.number ++
    [byteOf r.unit, byteOf r.trigger,
      flag 0 r.forced ||| flag 1 r.truncated ||| flag 2 (r.settled.any (·.gaps)),
      match r.settled with
      | some f => f.endReason.code
      | none => 0] ++
    bytes32 r.triggerEpoch ++ bytes16 r.generation ++ bytes16 r.mask ++ countBytes r.preActual ++
    countBytes ((r.settled.map (·.postActual)).getD 0) ++ [byteOf r.retriggers, 0]

/-- UNIT-STATUS. -/
def UnitStatusEntry.bytes (u : UnitStatusEntry) : List Byte :=
  [u.state.code,
    flag 0 u.startEpoch.isSome ||| flag 1 u.oldest.isSome ||| flag 2 u.record.isSome ||| flag 3 u.postEnd.isSome |||
      flag 4 u.countFrom.isSome ||| flag 5 u.attempt.isSome] ++
    countBytes u.slotCount ++ optional32 u.startEpoch ++ optional32 u.oldest ++ optional32 u.newest ++
    optional32 u.postEnd ++ optional32 u.countFrom ++ [byteOf u.crossings, byteOf (u.attempt.getD 0)] ++
    (match u.record with
      | some r => r.bytes
      | none => List.replicate 20 0)

/-- LANE-STATUS. -/
def LaneStatusEntry.bytes (l : LaneStatusEntry) : List Byte :=
  [l.state.code, byteOf l.goodRun, byteOf l.badRun, 0] ++ countBytes l.wordsTaken ++ countBytes l.lateWords

/-- An entry in the layout of its table (R175). -/
def TableEntry.bytes : TableEntry → List Byte
  | .control r => r.bytes
  | .channel e => e.bytes
  | .channelRuntime r => r.bytes
  | .level v => bytes16 v
  | .condition e => e.bytes
  | .trigger e => e.bytes
  | .triggerRuntime r => r.bytes
  | .unit c => c.bytes
  | .unitStatus u => u.bytes
  | .laneStatus l => l.bytes

end Sys2Proof.Machine
end

