-- ==== Sys2Proof/Machine/Ops.lean ====
section
/-! DEFINITION. The operations every block shares: saturating counts, comparison of epoch numbers, the reports of the
Link Controller, the transmit arbiter (R152), replies and the execution of the head request (R159, R161). -/

namespace Sys2Proof.Machine

/-- A count raised by `k`, stopping at its maximum (section 0.8). -/
def satAdd (limit n k : Nat) : Nat := min limit (n + k)

/-- Epoch `a` is earlier than `b`, compared modulo 2^32 (section 0.8; log entry 12). -/
def epochBefore (a b : Epoch) : Bool := (a - b).msb

/-- A number of epochs as an epoch difference. -/
def epochs (n : Nat) : Epoch := BitVec.ofNat 32 n

/-! ### Reports of the Link Controller (R146) -/

/-- A report handed to a source, at the tail of what it has not yet taken. -/
def report (src : Source) (r : LinkReport) (s : State) : State :=
  match src with
  | .training => s
  | .reply => s.setMgmt { s.mgmt with inbox := s.mgmt.inbox ++ [r] }
  | .alert => s.setAlerts { s.alerts with inbox := s.alerts.inbox ++ [r] }
  | .delivery => s.setDelivery { s.delivery with inbox := s.delivery.inbox ++ [r] }
  | .stream => s.setStream { s.stream with inbox := s.stream.inbox ++ [r] }

/-- A completion whose frame the source has given up (R156). -/
def LinkReport.voided : LinkReport → LinkReport
  | .linkLoss => .linkLoss
  | .completion _ => .completion true
  | .request r => .request r

/-- The frame in transmission marked as given up, when this source offered it (R156). -/
def LinkController.giveUp (src : Source) (l : LinkController) : LinkController :=
  { l with tx := l.tx.map fun t => if t.source = src then { t with void := true } else t }

/-- A source gives up every frame it has on the link: the completions already reported and the frame in transmission
no longer concern it (R113, R122, R143, R156, R162; log entry 3). -/
def giveUpFrames (src : Source) (s : State) : State :=
  let s := s.setLink (s.link.giveUp src)
  match src with
  | .training => s
  | .reply => s.setMgmt { s.mgmt with inbox := s.mgmt.inbox.map LinkReport.voided }
  | .alert => s.setAlerts { s.alerts with inbox := s.alerts.inbox.map LinkReport.voided }
  | .delivery => s.setDelivery { s.delivery with inbox := s.delivery.inbox.map LinkReport.voided }
  | .stream => s.setStream { s.stream with inbox := s.stream.inbox.map LinkReport.voided }

/-! ### The transmit arbiter (R152, Table 10-3)

The link may be UP again before a source has taken the loss of the time before. What the source still offers then
competes as R152 says (log entry 17), but for what the manual says is never sent after a loss: replies (R170), stream
frames (R121) and the END of a cut drain (R111). -/

/-- A source has a link loss still to take (R146). -/
def lossWaits (inbox : List LinkReport) : Bool := inbox.contains .linkLoss

/-- The reply queue's offer: its head (R162). With a link loss still to be taken every queued reply is one that the
loss discards and that is never sent (R170; log entry 11). -/
def replyOffer (s : State) : Option (Source × UpFrame) :=
  if lossWaits s.mgmt.inbox then none else s.mgmt.replies.head?.map fun r => (.reply, .reply r)

/-- The Alert Unit's offer, with the content it has if it starts now (R137, R139). An alert standing OFFERED competes
with a link loss still to be taken too (R149, R152; log entry 17). -/
def alertOffer (s : State) : Option (Source × UpFrame) :=
  match s.alerts.offer with
  | .newAlert .offered => some (.alert, .alert
      { sequence := s.alerts.sequence, repeatCount := 0, sources := s.alerts.reportable s.mgmt.control.alerts })
  | .repeatAlert .offered => some (.alert, .alert
      { sequence := s.alerts.outstanding.getD 0, repeatCount := s.alerts.repeatCount, sources := s.alerts.reported })
  | _ => none

/-- The current frame is the END of a cut drain, and a link loss is still to be taken. That loss turns the cut into a
plain abort, with no END offered after the link returns (R111). -/
def endLost (d : Drain) (inbox : List LinkReport) : Bool :=
  match d.position with
  | .finish _ => d.cut && lossWaits inbox
  | .header | .segment _ => false

/-- The Delivery Engine's offer: the current frame of the drain (R106), but for an END that a link loss has taken
(R111). Any other frame standing OFFERED competes with a link loss still to be taken too (R152; log entry 17). -/
def captureOffer (s : State) : Option (Source × UpFrame) :=
  match s.delivery.drain with
  | some d => if d.mark = .offered ∧ endLost d s.delivery.inbox = false then some (.delivery, .capture d.frame) else none
  | none => none

/-- The stream queue's offer: its head (R120). With a link loss still to be taken every queued frame is one that the
loss discards, and the first frame sent after it was queued after it (R121, R149). -/
def streamOffer (s : State) : Option (Source × UpFrame) :=
  if lossWaits s.stream.inbox then none
  else if s.stream.headMark = .offered then s.stream.queue.head?.map fun f => (.stream, .stream f) else none

/-- The ready source of the highest priority, with its frame (Table 10-3). -/
def readyFrame (s : State) : Option (Source × UpFrame) :=
  match replyOffer s with
  | some f => some f
  | none => match alertOffer s with
    | some f => some f
    | none => match captureOffer s with
      | some f => some f
      | none => streamOffer s

/-- The source is told that its frame has started (R152 step 3): a reply leaves the queue (R162), an alert fixes its
content (R137), a drain and the stream head are marked IN-TRANSMISSION (R106, R120). -/
def markStarted (src : Source) (s : State) : State :=
  match src with
  | .training => s
  | .reply => s.setMgmt { s.mgmt with
      replies := s.mgmt.replies.tail
      inTransmission := s.mgmt.inTransmission ++ s.mgmt.replies.head?.toList }
  | .alert => match s.alerts.offer with
    | .newAlert _ => s.setAlerts { s.alerts with
        offer := .newAlert .inTransmission
        sent := s.alerts.reportable s.mgmt.control.alerts
        reRaised := 0 }
    | .repeatAlert _ => s.setAlerts { s.alerts with offer := .repeatAlert .inTransmission }
    | .none => s
  | .delivery => s.setDelivery { s.delivery with
      drain := s.delivery.drain.map fun d => { d with mark := .inTransmission } }
  | .stream => s.setStream { s.stream with headMark := .inTransmission }

/-- The four conditions of R152 but the offer. -/
def canStart (s : State) : Bool := s.link.state = .up && s.link.tx.isNone && 1 ≤ s.link.credit

/-- The arbiter's start (R152), within an event: when the link is UP, the transmitter IDLE, credit at least 1 and a
source ready, the frame of the ready source of the highest priority starts and the credit falls by 1. -/
def arbitrate (s : State) : State :=
  if canStart s then
    match readyFrame s with
    | some (src, frame) =>
      let s := markStarted src s
      s.setLink { s.link with
        credit := s.link.credit - 1
        tx := some { frame := frame, source := src, void := false } }
    | none => s
  else s

/-! ### Requests and replies (R159, R161) -/

/-- A reply joins the tail of the reply queue (R162). -/
def queueReply (r : Reply) (s : State) : State :=
  s.setMgmt { s.mgmt with replies := s.mgmt.replies ++ [r] }

/-- The head request leaves the request queue and its reply is queued; the execution state is IDLE (R159). -/
def finishHead (status : Status) (content : ReplyContent) (s : State) : State :=
  match s.mgmt.requests with
  | [] => s
  | q :: rest => s.setMgmt { s.mgmt with
      requests := rest
      exec := .idle
      replies := s.mgmt.replies ++ [{ tag := q.tag, kind := q.kind, status := status, content := content }] }

/-- A refused request: its reply carries the status alone and nothing else changes (R159, R161). -/
def refuse (status : Status) (s : State) : State := finishHead status .nothing s

/-- The execution of the request at the head of the request queue by its row (R159): nothing happens when the
execution state is not IDLE or the head is no request of the row (log entry 1). The reply it queues may start within
the event (R152). -/
def execHead (row : RequestRow) (act : Request → State → State) (s : State) : State :=
  match s.mgmt.exec, s.mgmt.requests with
  | .idle, q :: _ => if q.row = row then arbitrate (act q s) else s
  | _, _ => s

/-- The unit a unit request's operand names. -/
def Request.unit (q : Request) : Option (Fin 4) := finOf 4 q.operand.toNat

end Sys2Proof.Machine
end

