-- ==== Sys2Proof/Machine/Alerts.lean ====
section
/-! DEFINITION. The Alert Unit's events and the ALERT-ACK request (chapter 9). -/

namespace Sys2Proof.Machine

/-- The Alert Unit takes a raise of the named source, if one is on its way (R136, R137). -/
def alertRaise (src : AlertSource) (s : State) : State :=
  if src ∈ s.alerts.raises then arbitrate (settleAlerts (s.setAlerts (s.alerts.take src))) else s

/-- The completion of a NEW alert (R138). -/
def AlertUnit.newCompleted (a : AlertUnit) : AlertUnit :=
  { a with
    reported := a.sent
    outstanding := some a.sequence
    sequence := a.sequence + 1
    pending := a.pending &&& (~~~ a.sent ||| a.reRaised)
    repeatCount := 0
    state := .outstanding
    timerRunning := true
    offer := .none
    sent := 0
    reRaised := 0 }

/-- The completion of a REPEAT: the timer restarts while the alert is OUTSTANDING, and not in QUIET (R139, R140). -/
def AlertUnit.repeatCompleted (a : AlertUnit) : AlertUnit :=
  { a with
    offer := .none
    timerRunning := if a.state = .outstanding then true else a.timerRunning }

/-- The Alert Unit takes the completion reported next (R138, R139, R140); a frame given up completes nothing (R143). -/
def alertFrameCompletion (s : State) : State :=
  match s.alerts.inbox with
  | .completion void :: rest =>
    let a := { s.alerts with inbox := rest }
    if void then s.setAlerts a
    else match a.offer with
      | .newAlert .inTransmission => arbitrate (settleAlerts (s.setAlerts a.newCompleted))
      | .repeatAlert .inTransmission => arbitrate (settleAlerts (s.setAlerts a.repeatCompleted))
      | _ => s.setAlerts a
  | _ => s

/-- The expiry of the re-announce timer: the repeat count rises and a REPEAT is offered (R139). A stopped timer does
not expire (log entry 1). -/
def reAnnounceTimerExpiry (s : State) : State :=
  if s.alerts.timerRunning then
    arbitrate (s.setAlerts { s.alerts with
      timerRunning := false
      repeatCount := satAdd Config.count8Max s.alerts.repeatCount 1
      offer := .repeatAlert .offered })
  else s

/-- The state after an acknowledgement: QUIET, and a REPEAT still OFFERED withdrawn (R140). -/
def AlertUnit.acknowledged (a : AlertUnit) : AlertUnit :=
  { a with
    reported := 0
    outstanding := none
    repeatCount := 0
    timerRunning := false
    state := .quiet
    offer := if a.offer = .repeatAlert .offered then .none else a.offer }

/-- The ALERT-ACK request (R140). -/
def alertAck (q : Request) (s : State) : State :=
  if s.alerts.state = .outstanding ∧ s.alerts.outstanding = some q.operand then
    finishHead .ok (.acknowledged q.operand) (settleAlerts (s.setAlerts s.alerts.acknowledged))
  else refuse .stale s

/-- The offer a link loss leaves (R142): a REPEAT is dropped, and in QUIET a NEW alert in transmission returns to
OFFERED. -/
def offerAfterLoss : Offer → Offer
  | .newAlert _ => .newAlert .offered
  | .repeatAlert _ => .none
  | .none => .none

/-- The Alert Unit over a link loss (R142). -/
def AlertUnit.linkLoss (a : AlertUnit) : AlertUnit :=
  match a.state with
  | .outstanding =>
    { a with
      pending := a.pending ||| a.reported
      reported := 0
      outstanding := none
      repeatCount := 0
      timerRunning := false
      state := .quiet
      offer := .none }
  | .quiet => { a with offer := offerAfterLoss a.offer, sent := 0, reRaised := 0 }

/-- The Alert Unit takes a link loss (R142). -/
def linkLossAlert (s : State) : State :=
  match s.alerts.inbox with
  | .linkLoss :: rest =>
    let s := giveUpFrames .alert (s.setAlerts { s.alerts with inbox := rest })
    arbitrate (settleAlerts (s.setAlerts s.alerts.linkLoss))
  | _ => s

/-- ALERT_RAISE (R136). -/
def execAlertRaise (source : AlertSource) (s : State) : Host.Outcome State Fault Refusal := .next (alertRaise source s)

/-- ALERT_FRAME_COMPLETION (R138, R139, R140). -/
def execAlertFrameCompletion (s : State) : Host.Outcome State Fault Refusal := .next (alertFrameCompletion s)

/-- RE_ANNOUNCE_TIMER_EXPIRY (R139). -/
def execReAnnounceTimerExpiry (s : State) : Host.Outcome State Fault Refusal := .next (reAnnounceTimerExpiry s)

/-- The Alert Unit has taken a link loss that the Management Engine has still to take. Both are told of each loss in one
event (R146), so the counts of the losses waiting tell. -/
def lossTakenFirst (s : State) : Bool :=
  s.alerts.inbox.count .linkLoss < s.mgmt.inbox.count .linkLoss

/-- ALERT_ACK (R140). A request whose loss the Alert Unit took first is never executed (R142): it waits at the head for
the Management Engine to take the loss, which removes it (R170; log entry 9). Where the Management Engine took the loss
first and the link is UP again, a request that has arrived since is executed at once, on the alert as it stands; this
is the model's choice (log entry 19, a DESIGN CHOICE). -/
def execAlertAck (s : State) : Host.Outcome State Fault Refusal :=
  .next (if lossTakenFirst s then s else execHead .alertAck alertAck s)

/-- LINK_LOSS_ALERT (R142). -/
def execLinkLossAlert (s : State) : Host.Outcome State Fault Refusal := .next (linkLossAlert s)

end Sys2Proof.Machine
end

