-- ==== Sys2Proof/Machine/Units.lean ====
section
/-! DEFINITION. The operations on capture units: the protected set, arming, ring writes, the window test, fires and
freezing (chapter 5). -/

namespace Sys2Proof.Machine

/-! ### Units and their regions -/

/-- A unit's runtime replaced. -/
def putUnit (u : Fin 4) (r : UnitRuntime) (s : State) : State :=
  s.setCapture { s.capture with units := Table.put s.capture.units u r }

/-- A unit with its runtime, in the drain queue's tail when it has just frozen (R91). -/
def putFrozen (u : Fin 4) (r : UnitRuntime) (s : State) : State :=
  let s := putUnit u r s
  if r.state = .held then s.setCapture { s.capture with drainQueue := s.capture.drainQueue ++ [u] } else s

/-- The channels a unit's configuration uses: its mask, and in CYCLES mode its reference channel (R79). -/
def UnitConfig.uses (c : UnitConfig) (ch : Fin 16) : Bool :=
  has c.mask ch || (c.postMode == .cycles && c.reference == ch)

/-- The protected channel set (R79). -/
def protectedSet (s : State) : ChannelSet :=
  BitVec.ofFnLE fun ch => (List.finRange 4).any fun u =>
    s.capture.units[u].state != .idle && s.capture.configs[u].uses ch

/-- Two regions have a block in common (R72). -/
def UnitConfig.overlaps (a b : UnitConfig) : Bool :=
  max a.firstBlock b.firstBlock < min (a.firstBlock + a.blockCount) (b.firstBlock + b.blockCount)

/-- A unit's region overlaps that of another unit not in IDLE (R80). -/
def overlapsOther (s : State) (u : Fin 4) : Bool :=
  (List.finRange 4).any fun v => v != u && s.capture.units[v].state != .idle &&
    s.capture.configs[u].overlaps s.capture.configs[v]

/-- A unit armed or rearmed: an empty ring, the start epoch, and FILLING, or ARMED when its pre is 0 (R80, R94). -/
def armedRuntime (c : UnitConfig) (start : Epoch) : UnitRuntime :=
  { UnitRuntime.cleared with
    state := if c.pre = 0 then .armed else .filling
    startEpoch := some start }

/-- The release of a unit: IDLE under ONE-SHOT, rearmed under REARM (R94). -/
def releasedRuntime (c : UnitConfig) (next : Epoch) : UnitRuntime :=
  match c.afterRelease with
  | .oneShot => UnitRuntime.cleared
  | .rearm => armedRuntime c next

/-- A unit aborted outside a drain: to IDLE with its capture discarded, out of the drain queue (R93). -/
def abortUnit (u : Fin 4) (s : State) : State :=
  let s := putUnit u UnitRuntime.cleared s
  s.setCapture { s.capture with drainQueue := s.capture.drainQueue.filter fun v => v != u }

/-! ### Freezing and the window test (R83, R91) -/

/-- The slot of a record for a unit (R77). -/
def slotOf (c : UnitConfig) (r : EpochRecord) : Slot :=
  { epoch := r.epoch
    values := (channelsOf c.mask).map fun ch => (ch, r.fields[ch].value)
    mark := c.postMode == .cycles && r.fields[c.reference].crossed }

/-- A slot holds an absent mark for some mask channel. -/
def Slot.gap (t : Slot) : Bool := t.values.any fun v => v.2.isNone

/-- What a freeze at slot `e` settles, over the slots of the capture (R91). -/
def settledAt (e : Epoch) (reason : EndReason) (r : CaptureRecord) (ring : List Slot) : Settled :=
  { postActual := (e - r.triggerEpoch).toNat, endReason := reason, gaps := ring.any Slot.gap }

/-- A freeze at slot `e`: later slots leave the ring, the record is completed, the unit is HELD (R86, R91). -/
def freeze (e : Epoch) (reason : EndReason) (r : CaptureRecord) (u : UnitRuntime) : UnitRuntime :=
  let ring := u.ring.filter fun t => !epochBefore e t.epoch
  { u with
    state := .held
    ring := ring
    record := some { r with settled := some (settledAt e reason r ring) } }

/-- The depth step of the window test (R83 step 2). -/
def depthTest (c : UnitConfig) (r : CaptureRecord) (e : Epoch) : Option EndReason :=
  if r.preActual + (e - r.triggerEpoch).toNat + 1 = c.depth then some .depthLimit else none

/-- Crossings counted after a slot in CYCLES mode (R83 step 1). -/
def crossingsAfter (u : UnitRuntime) (t : Slot) : Nat :=
  match u.countFrom with
  | some f => if epochBefore f t.epoch && t.mark then satAdd Config.count8Max u.crossings 1 else u.crossings
  | none => u.crossings

/-- The end reason a slot gives at the window test, crossings counted included (R83). -/
def windowEnd (c : UnitConfig) (r : CaptureRecord) (u : UnitRuntime) (t : Slot) : Option EndReason :=
  match c.postMode with
  | .epochs => if u.postEnd = some t.epoch then some .complete else depthTest c r t.epoch
  | .cycles =>
    if crossingsAfter u t = c.postLength then some .complete
    else if u.countFrom.map (· + epochs c.guard) = some t.epoch then some .cycleTimeout
    else depthTest c r t.epoch

/-- The window test of a slot at or after the trigger epoch (R83). -/
def windowTest (c : UnitConfig) (r : CaptureRecord) (t : Slot) (u : UnitRuntime) : UnitRuntime :=
  let u' := match c.postMode with
    | .epochs => u
    | .cycles => { u with crossings := crossingsAfter u t }
  match windowEnd c r u t with
  | some reason => freeze t.epoch reason r u'
  | none => u'

/-! ### Ring writes (R81, R82) -/

/-- A ring write in FILLING or ARMED (R81). -/
def collect (c : UnitConfig) (t : Slot) (u : UnitRuntime) : UnitRuntime :=
  let ring := (if c.depth ≤ u.ring.length then u.ring.tail else u.ring) ++ [t]
  { u with
    ring := ring
    state := if u.state = .filling ∧ c.pre ≤ ring.length then .armed else u.state }

/-- A ring write in POST (R82). -/
def collectPost (c : UnitConfig) (t : Slot) (u : UnitRuntime) : UnitRuntime :=
  match u.record with
  | none => u
  | some r =>
    if epochBefore t.epoch (r.triggerEpoch - epochs r.preActual) then u
    else
      let u := { u with ring := u.ring ++ [t] }
      if epochBefore t.epoch r.triggerEpoch then u else windowTest c r t u

/-- A unit's part in the taking of a record (R78). -/
def unitTakes (c : UnitConfig) (rec : EpochRecord) (u : UnitRuntime) : UnitRuntime :=
  match u.state with
  | .filling | .armed => collect c (slotOf c rec) u
  | .post => collectPost c (slotOf c rec) u
  | .idle | .held | .draining | .delivered => u

/-- A unit takes the record, joining the drain queue when this freezes it (R78, R91). -/
def unitStep (rec : EpochRecord) (s : State) (u : Fin 4) : State :=
  let before := s.capture.units[u]
  let after := unitTakes s.capture.configs[u] rec before
  if before.state = .post then putFrozen u after s else putUnit u after s

/-- The units take the record in increasing unit order (log entry 13). -/
def unitsTake (rec : EpochRecord) (s : State) : State := (List.finRange 4).foldl (unitStep rec) s

/-! ### Fires (R84 to R89) -/

/-- The ring floor (R84). -/
def ringFloor (u : UnitRuntime) : Option Epoch :=
  match u.ring.head? with
  | some t => some t.epoch
  | none => u.startEpoch

/-- The window test over held slots in increasing epoch order, until one freezes the unit (R86). -/
def testHeld (c : UnitConfig) (r : CaptureRecord) : List Slot → UnitRuntime → UnitRuntime
  | [], u => u
  | t :: rest, u =>
    let u := windowTest c r t u
    if u.state = .held then u else testHeld c r rest u

/-- The pre actual of a starting fire (R85 step 1). -/
def preActualOf (c : UnitConfig) (floor n : Epoch) : Nat := min c.pre (n - floor).toNat

/-- The capture record a starting fire builds (R85 step 4). -/
def startRecord (c : UnitConfig) (u : Fin 4) (number : BitVec 16) (floor : Epoch) (f : FireRequest) : CaptureRecord :=
  let p := preActualOf c floor f.epoch
  { number := number, unit := u, trigger := f.trigger, forced := f.forced, triggerEpoch := f.epoch,
    generation := f.generation, mask := c.mask, preActual := p, truncated := decide (p < c.pre), retriggers := 0,
    settled := none }

/-- The unit in POST with its ring cut, before the held slots are tested (R85 steps 2, 5 and 6). -/
def postRuntime (c : UnitConfig) (r : CaptureRecord) (u : UnitRuntime) : UnitRuntime :=
  { u with
    state := .post
    ring := u.ring.filter fun t => !epochBefore t.epoch (r.triggerEpoch - epochs r.preActual)
    record := some r
    postEnd := match c.postMode with
      | .epochs => some (r.triggerEpoch + epochs c.postLength)
      | .cycles => none
    countFrom := match c.postMode with
      | .epochs => none
      | .cycles => some r.triggerEpoch
    crossings := 0 }

/-- The unit after a starting fire: POST, or HELD when a held slot completes the window (R85, R86). -/
def startedRuntime (c : UnitConfig) (r : CaptureRecord) (u : UnitRuntime) : UnitRuntime :=
  let u := postRuntime c r u
  testHeld c r (u.ring.filter fun t => !epochBefore t.epoch r.triggerEpoch) u

/-- The later of two epochs. -/
def laterEpoch (a b : Epoch) : Epoch := if epochBefore a b then b else a

/-- A retrigger at epoch `m` (R88, R89). -/
def retriggered (c : UnitConfig) (m : Epoch) (u : UnitRuntime) : UnitRuntime :=
  let u := { u with record := u.record.map fun r =>
    { r with retriggers := satAdd Config.count8Max r.retriggers 1 } }
  match c.retrigger, c.postMode with
  | .ignore, _ => u
  | .extend, .epochs => { u with postEnd := u.postEnd.map fun e => laterEpoch e (m + epochs c.postLength) }
  | .extend, .cycles =>
    match u.countFrom with
    | some f =>
      if epochBefore f m then
        { u with
          countFrom := some m
          crossings := (u.ring.filter fun t => epochBefore m t.epoch && t.mark).length }
      else u
    | none => u

/-- The answer of a unit to a fire, returned to the Condition Engine; it is withdrawn when the Condition Engine has
already taken a soft reset the Capture Controller has not (R65, R71). -/
def returnAnswer (f : FireRequest) (a : Answer) (s : State) : State :=
  if s.conditions.resetsTaken ≤ s.capture.resetsTaken then
    s.setConditions { s.conditions with
      answers := s.conditions.answers ++ [{ trigger := f.trigger, answer := a, waiter := f.waiter }] }
  else s

/-- A starting fire at a unit with this ring floor (R85). -/
def startCapture (f : FireRequest) (floor : Epoch) (s : State) : State :=
  let c := s.capture.configs[f.unit]
  let r := startRecord c f.unit s.capture.number floor f
  let s := putFrozen f.unit (startedRuntime c r s.capture.units[f.unit]) s
  let s := s.setCapture { s.capture with number := s.capture.number + 1 }
  returnAnswer f (if r.truncated then .truncated else .started) s

/-- The Capture Controller's answer to a fire, by the unit's state (R84). -/
def takeFire (f : FireRequest) (s : State) : State :=
  let u := s.capture.units[f.unit]
  match u.state with
  | .filling | .armed =>
    match ringFloor u with
    | some floor => if epochBefore f.epoch floor then returnAnswer f .missed s else startCapture f floor s
    | none => returnAnswer f .missed s
  | .post => returnAnswer f .retriggered (putUnit f.unit (retriggered s.capture.configs[f.unit] f.epoch u) s)
  | .idle | .held | .draining | .delivered => returnAnswer f .missed s

/-- A fire request sent to the Capture Controller; it is withdrawn when the Capture Controller has already taken a soft
reset the Condition Engine has not (R65, R71). -/
def sendFire (f : FireRequest) (s : State) : State :=
  if s.capture.resetsTaken ≤ s.conditions.resetsTaken then
    s.setCapture { s.capture with fires := s.capture.fires ++ [f] }
  else s

end Sys2Proof.Machine
end

