-- ==== Sys2Proof/Machine/Capture.lean ====
section
/-! DEFINITION. The events of the Capture Controller, and the unit requests ARM, ABORT, RELEASE and REPLAY (chapter 5,
R108). -/

namespace Sys2Proof.Machine

/-- The Capture Controller takes the next fire request (R84). -/
def fireRequest (s : State) : State :=
  match s.capture.fires with
  | [] => s
  | f :: rest => takeFire f (s.setCapture { s.capture with fires := rest })

/-- The Capture Controller takes the next record offered to it (R78). A record of a run that began after a soft reset
the Capture Controller has still to take waits for it (R35; log entry 2). -/
def captureRecordTake (s : State) : State :=
  match s.capture.records with
  | [] => s
  | o :: rest =>
    if o.run = s.capture.resetsTaken then
      unitsTake o.record (s.setCapture { s.capture with records := rest, nextRecord := o.record.epoch + 1 })
    else s

/-- The ARM request (R80). -/
def arm (q : Request) (s : State) : State :=
  match q.unit with
  | none => refuse .badIndex s
  | some u =>
    if s.capture.units[u].state ≠ .idle then refuse .wrongState s
    else if !s.capture.configs[u].inUse then refuse .badValue s
    else if overlapsOther s u then refuse .overlap s
    else finishHead .ok (.unit u) (putUnit u (armedRuntime s.capture.configs[u] s.capture.nextRecord) s)

/-- The cut mark of the drain of this unit is set (R108). -/
def cutDrain (u : Fin 4) (s : State) : State :=
  s.setDelivery { s.delivery with drain := s.delivery.drain.map fun d => if d.unit = u then { d with cut := true } else d }

/-- The ABORT request (R93, R108). -/
def abort (q : Request) (s : State) : State :=
  match q.unit with
  | none => refuse .badIndex s
  | some u =>
    match s.capture.units[u].state with
    | .idle => refuse .wrongState s
    | .draining => finishHead .ok (.unit u) (cutDrain u s)
    | .filling | .armed | .post | .held | .delivered => finishHead .ok (.unit u) (abortUnit u s)

/-- A DELIVERED unit released (R94). -/
def releaseUnit (u : Fin 4) (s : State) : State :=
  putUnit u (releasedRuntime s.capture.configs[u] s.capture.nextRecord) s

/-- The RELEASE request (R94). -/
def release (q : Request) (s : State) : State :=
  match q.unit with
  | none => refuse .badIndex s
  | some u =>
    if s.capture.units[u].state = .delivered then finishHead .ok (.unit u) (releaseUnit u s)
    else refuse .wrongState s

/-- The REPLAY request (R95). -/
def replay (q : Request) (s : State) : State :=
  match q.unit with
  | none => refuse .badIndex s
  | some u =>
    if s.capture.units[u].state = .delivered then
      finishHead .ok (.unit u) (putFrozen u { s.capture.units[u] with state := .held } s)
    else refuse .wrongState s

/-- FIRE_REQUEST (R84 to R90). -/
def execFireRequest (s : State) : Host.Outcome State Fault Refusal := .next (fireRequest s)

/-- CAPTURE_RECORD_TAKE (R78, R81, R82). -/
def execCaptureRecordTake (s : State) : Host.Outcome State Fault Refusal := .next (captureRecordTake s)

/-- ARM (R80). -/
def execArm (s : State) : Host.Outcome State Fault Refusal := .next (execHead .arm arm s)

/-- ABORT (R93, R108). -/
def execAbort (s : State) : Host.Outcome State Fault Refusal := .next (execHead .abort abort s)

/-- RELEASE (R94). -/
def execRelease (s : State) : Host.Outcome State Fault Refusal := .next (execHead .release release s)

/-- REPLAY (R95). -/
def execReplay (s : State) : Host.Outcome State Fault Refusal := .next (execHead .replay replay s)

end Sys2Proof.Machine
end

