-- ==== Sys2Proof/Machine/Banks.lean ====
section
/-! DEFINITION. The operations of the Condition Engine: tests, the walk's path, the handling of a fire, and the swap of
the banks (chapters 3, 4 and 8). -/

namespace Sys2Proof.Machine

/-! ### Tests and the walk (R42 to R54) -/

/-- The eight tests of an entry against a record's channel and the LIVE levels (Table 3-3, R42 to R46). -/
def evalTest (levels : Table Value 32) (rec : EpochRecord) (e : ConditionEntry) : Bool :=
  let f := rec.fields[e.channel]
  let a := levels[e.levelA].toInt
  let b := levels[e.levelB].toInt
  match f.value with
  | none => e.test == .absent
  | some v =>
    match e.test with
    | .above => a < v.toInt
    | .below => v.toInt < a
    | .inside => a ≤ v.toInt && v.toInt ≤ b
    | .outside => v.toInt < a || b < v.toInt
    | .crossed => f.crossed
    | .rise => f.delta.any fun d => a < d
    | .fall => f.delta.any fun d => a < -d
    | .absent => false

/-- The action an entry takes (R47). -/
def chosenAction (levels : Table Value 32) (rec : EpochRecord) (e : ConditionEntry) : Action :=
  if evalTest levels rec e then e.onTrue else e.onFalse

/-- A trigger joins the fired set once (R51). The set is kept in the order of firing. -/
def addFired (fired : List (Fin 8)) (t : Fin 8) : List (Fin 8) := if t ∈ fired then fired else fired ++ [t]

/-- The triggers a walk fires, in walk order (R47 to R54): the entries from the current index on, how many of them are
passed over by a SKIP, and the triggers fired so far. A walk that runs past entry 63 ends. -/
def walkEntries (levels : Table Value 32) (rec : EpochRecord) :
    List ConditionEntry → Nat → List (Fin 8) → List (Fin 8)
  | [], _, fired => fired
  | _ :: rest, k + 1, fired => walkEntries levels rec rest k fired
  | e :: rest, 0, fired =>
    if !e.inUse then fired
    else match chosenAction levels rec e with
      | .next => walkEntries levels rec rest 0 fired
      | .skip k => walkEntries levels rec rest k.val fired
      | .fire t => walkEntries levels rec rest 0 (addFired fired t)
      | .fireEnd t => addFired fired t
      | .endWalk => fired

/-- The triggers the walk of a record fires under a bank (R54). -/
def walkFires (b : Bank) (rec : EpochRecord) : List (Fin 8) := walkEntries b.levels rec b.list.toList 0 []

/-! ### Triggers (R62 to R68) -/

/-- One step of the hold-off countdown (R62). -/
def countdown (t : Table TriggerRuntime 8) : Table TriggerRuntime 8 :=
  Table.mapAll (fun _ r => { r with remaining := r.remaining - 1 }) t

/-- A trigger's runtime replaced. -/
def putTrigger (t : Fin 8) (r : TriggerRuntime) (s : State) : State :=
  s.setConditions { s.conditions with triggers := Table.put s.conditions.triggers t r }

/-- An accepted fire counted and dated (R64 steps 1 and 2, R68). -/
def TriggerRuntime.countFire (n : Epoch) (r : TriggerRuntime) : TriggerRuntime :=
  { r with fires := satAdd Config.count16Max r.fires 1, lastFire := some n }

/-- The handling of a walk fire of trigger `t` at epoch `n` (R63, R64). -/
def handleFire (n : Epoch) (s : State) (t : Fin 8) : State :=
  let r := s.conditions.triggers[t]
  let entry := s.conditions.live.triggers[t]
  if 0 < r.remaining then
    putTrigger t { r with suppressed := satAdd Config.count16Max r.suppressed 1 } s
  else
    let s := putTrigger t { r.countFire n with remaining := entry.holdOff } s
    match entry.target with
    | none => s
    | some u => sendFire { unit := u, trigger := t, epoch := n, generation := s.conditions.generation,
                           forced := false, waiter := none } s

/-! ### Banks (R127, R130) -/

/-- A COMMIT's reply (R130). -/
def commitReply (tag : Byte) (generation : BitVec 16) (fromEpoch : Epoch) : Reply :=
  { tag := tag, kind := 0x03, status := .ok, content := .commit generation fromEpoch }

/-- The deferred reply is filled in and moved from its slot to the tail of the reply queue; an empty slot releases
nothing (R130). -/
def releaseDeferred (fromEpoch : Epoch) (s : State) : State :=
  match s.mgmt.deferred with
  | none => s
  | some tag => queueReply (commitReply tag s.conditions.generation fromEpoch) (s.setMgmt { s.mgmt with deferred := none })

/-- Steps 1 to 5 of a swap (R127): EDIT becomes LIVE and stays in EDIT, the generation rises, hold-offs are cleared,
and no commit is pending. -/
def swapBanks (c : ConditionEngine) : ConditionEngine :=
  { c with
    live := c.edit
    generation := c.generation + 1
    triggers := Table.mapAll (fun _ r => { r with remaining := 0 }) c.triggers
    commit := .none }

/-- The swap that performs a pending commit, if one is pending, with its deferred reply released (R127, R128, R129). -/
def swapPending (fromEpoch : Epoch) (s : State) : State :=
  match s.conditions.commit with
  | .none => s
  | .pending => releaseDeferred fromEpoch (s.setConditions (swapBanks s.conditions))

end Sys2Proof.Machine
end

