-- ==== Sys2Proof/Machine/Conditions.lean ====
section
/-! DEFINITION. The walk and the taking of an answer at the Condition Engine (R54, R66, R69). -/

namespace Sys2Proof.Machine

/-- The walk of a record already removed from the queue: the commit check, the hold-off countdown, then the entries,
the fires they hand on handled in order (R53, R54, R55). The next walk epoch becomes the one after it (R124). -/
def walkRecord (rec : EpochRecord) (s : State) : State :=
  let s := swapPending rec.epoch s
  let s := s.setConditions { s.conditions with
    triggers := countdown s.conditions.triggers
    nextWalk := rec.epoch + 1 }
  (walkFires s.conditions.live rec).foldl (handleFire rec.epoch) s

/-- The Condition Engine takes the next record offered to it (R52). A record of a run that began after a soft reset
the Condition Engine has still to take waits for it (R35; log entry 2). -/
def walk (s : State) : State :=
  match s.conditions.records with
  | [] => s
  | o :: rest =>
    if o.run = s.conditions.resetsTaken then
      arbitrate (walkRecord o.record (s.setConditions { s.conditions with records := rest }))
    else s

/-- The runtime's part of an answer: a MISSED one is counted and raises TRIGGER-MISSED (R66). -/
def countAnswer (a : FireAnswer) (s : State) : State :=
  match a.answer with
  | .missed =>
    let r := s.conditions.triggers[a.trigger]
    raise .triggerMissed (putTrigger a.trigger { r with missed := satAdd Config.count16Max r.missed 1 } s)
  | .started | .truncated | .retriggered => s

/-- The FIRE request waiting for this answer finishes with it (R69). -/
def completeFire (a : FireAnswer) (s : State) : State :=
  match s.mgmt.exec with
  | .awaitAnswer w t e => if a.waiter = some w then finishHead .ok (.fire t (some a.answer) e) s else s
  | .idle | .awaitReset _ => s

/-- The Condition Engine takes the next answer (R66, R69). -/
def fireAnswer (s : State) : State :=
  match s.conditions.answers with
  | [] => s
  | a :: rest =>
    arbitrate (completeFire a (countAnswer a (s.setConditions { s.conditions with answers := rest })))

/-- WALK (R52 to R57). -/
def execWalk (s : State) : Host.Outcome State Fault Refusal := .next (walk s)

/-- FIRE_ANSWER (R66, R69). -/
def execFireAnswer (s : State) : Host.Outcome State Fault Refusal := .next (fireAnswer s)

end Sys2Proof.Machine
end

