-- ==== Sys2Proof/Machine/Delivery.lean ====
section
/-! DEFINITION. The Delivery Engine: the start of a drain, the completion of a capture frame, the end of a drain, and
link loss (chapter 6). -/

namespace Sys2Proof.Machine

/-- The segment count of a capture of `n` slots (section 6.3). -/
def segmentCount (n : Nat) : Nat := (n + (Config.slotsPerSegment - 1)) / Config.slotsPerSegment

/-- The slots of segment `k` (R104). -/
def segmentSlots (ring : List Slot) (k : Nat) : List Slot :=
  (ring.drop (Config.slotsPerSegment * k)).take Config.slotsPerSegment

/-- The next delivery attempt (R101). -/
def nextAttempt : Option Nat → Nat
  | none => 1
  | some a => satAdd Config.count8Max a 1

/-- The Delivery Engine and the Capture Controller have taken the same soft resets: a drain may start, and the drain
in progress is one the Capture Controller still knows (R113). -/
def deliveryInStep (s : State) : Bool := s.delivery.resetsTaken == s.capture.resetsTaken

/-- The conditions of a drain start: engine IDLE, link UP as the Delivery Engine has been told, and the blocks in step
over soft resets; the drain queue is looked at by the start itself (R100, R113, R146). -/
def mayStartDrain (s : State) : Bool :=
  s.delivery.drain.isNone && s.link.state == .up && !lossWaits s.delivery.inbox && deliveryInStep s

/-- A drain at its start: the header current and offered, no segment done, no cut (R100, R103). -/
def newDrain (u : Fin 4) (r : CaptureRecord) (attempt : Nat) (mode : PostMode) : Drain :=
  { unit := u, position := .header, mark := .offered, frame := .header r attempt mode, segmentsDone := 0,
    cut := false }

/-- The drain of a unit started: DRAINING, the attempt set, the header offered (R100, R101, R103). -/
def startDrain (u : Fin 4) (rest : List (Fin 4)) (r : CaptureRecord) (s : State) : State :=
  let attempt := nextAttempt s.capture.units[u].attempt
  let mode := s.capture.configs[u].postMode
  let s := s.setCapture { s.capture with drainQueue := rest }
  let s := putUnit u { s.capture.units[u] with state := .draining, attempt := some attempt } s
  s.setDelivery { s.delivery with drain := some (newDrain u r attempt mode) }

/-- The Delivery Engine starts a drain if the conditions hold (R100); the header it offers may start within the event
(R152). -/
def drainStart (s : State) : State :=
  if mayStartDrain s then
    match s.capture.drainQueue with
    | [] => s
    | u :: rest =>
      match s.capture.units[u].record with
      | none => s
      | some r => arbitrate (startDrain u rest r s)
  else s

/-- The next frame of the drain made current and offered (R102, R106). -/
def offerFrame (d : Drain) (position : DrainPosition) (frame : CaptureFrame) (s : State) : State :=
  s.setDelivery { s.delivery with drain := some { d with position := position, mark := .offered, frame := frame } }

/-- Segment `k` offered, built from the ring (R104). -/
def offerSegment (d : Drain) (k : Nat) (r : CaptureRecord) (s : State) : State :=
  offerFrame d (.segment k) (.segment r.number d.unit k (segmentSlots s.capture.units[d.unit].ring k)) s

/-- The END offered (R105). -/
def offerEnd (d : Drain) (segments : Nat) (outcome : EndOutcome) (r : CaptureRecord) (s : State) : State :=
  offerFrame d (.finish outcome) (.finish r.number d.unit segments outcome) s

/-- The engine IDLE with no drain. -/
def endDrain (s : State) : State := s.setDelivery { s.delivery with drain := none }

/-- The unit of a completed drain: DELIVERED, or released at once under AUTO (R94, R107). -/
def deliverUnit (u : Fin 4) (s : State) : State :=
  match s.capture.configs[u].handOff with
  | .auto => releaseUnit u s
  | .retain => putUnit u { s.capture.units[u] with state := .delivered } s

/-- What the completion of the current frame does (R106 to R109). -/
def frameCompleted (d : Drain) (r : CaptureRecord) (s : State) : State :=
  let total := segmentCount s.capture.units[d.unit].ring.length
  match d.position with
  | .header => if d.cut then offerEnd d d.segmentsDone .aborted r s else offerSegment d 0 r s
  | .segment k =>
    let d := { d with segmentsDone := d.segmentsDone + 1 }
    if d.cut then offerEnd d d.segmentsDone .aborted r s
    else if k + 1 < total then offerSegment d (k + 1) r s
    else offerEnd d total .complete r s
  | .finish .aborted => endDrain (abortUnit d.unit s)
  | .finish .complete =>
    let s := raise .captureDelivered s
    if d.cut then endDrain (abortUnit d.unit s) else endDrain (deliverUnit d.unit s)

/-- What the completion of the current frame does once the Capture Controller has taken a soft reset the engine has
not: the frame has completed as ever, but no further frame is offered and no end is handed back (R113). -/
def frameCompletedAlone (d : Drain) (s : State) : State :=
  match d.position with
  | .header => s
  | .segment _ => s.setDelivery { s.delivery with drain := some { d with segmentsDone := d.segmentsDone + 1 } }
  | .finish .aborted => endDrain s
  | .finish .complete => endDrain (raise .captureDelivered s)

/-- The Delivery Engine takes the completion reported next (R106). It has no effect when the frame was given up, when
the engine is IDLE or when the current frame is still OFFERED (R113). -/
def takeCaptureCompletion (s : State) : State :=
  match s.delivery.inbox with
  | .completion void :: rest =>
    let s := s.setDelivery { s.delivery with inbox := rest }
    match s.delivery.drain with
    | none => s
    | some d =>
      if void || d.mark == .offered then s
      else if deliveryInStep s then
        match s.capture.units[d.unit].record with
        | none => s
        | some r => frameCompleted d r s
      else frameCompletedAlone d s
  | _ => s

/-- The completion of a capture frame, with the start the next offer may bring (R106, R152); nothing happens when none
is reported (log entry 1). -/
def captureFrameCompletion (s : State) : State :=
  match s.delivery.inbox with
  | .completion _ :: _ => arbitrate (takeCaptureCompletion s)
  | _ => s

/-- A draining unit back in HELD at the head of the drain queue (R110). -/
def returnUnit (u : Fin 4) (s : State) : State :=
  let s := putUnit u { s.capture.units[u] with state := .held } s
  s.setCapture { s.capture with drainQueue := u :: s.capture.drainQueue }

/-- The drain broken by link loss: without a cut the unit returns to the head of the queue (R110), with one it is
aborted (R111). A drain the Capture Controller has reset meanwhile is only dropped (R113). -/
def breakDrain (d : Drain) (s : State) : State :=
  if !deliveryInStep s then endDrain s
  else if d.cut then endDrain (abortUnit d.unit s)
  else endDrain (returnUnit d.unit s)

/-- The Delivery Engine takes a link loss (R110, R111). -/
def linkLossDelivery (s : State) : State :=
  match s.delivery.inbox with
  | .linkLoss :: rest =>
    let s := giveUpFrames .delivery (s.setDelivery { s.delivery with inbox := rest })
    match s.delivery.drain with
    | none => s
    | some d => breakDrain d s
  | _ => s

/-- DRAIN_START (R100, R101). -/
def execDrainStart (s : State) : Host.Outcome State Fault Refusal := .next (drainStart s)

/-- CAPTURE_FRAME_COMPLETION (R106 to R109). -/
def execCaptureFrameCompletion (s : State) : Host.Outcome State Fault Refusal := .next (captureFrameCompletion s)

/-- LINK_LOSS_DELIVERY (R110, R111). -/
def execLinkLossDelivery (s : State) : Host.Outcome State Fault Refusal := .next (linkLossDelivery s)

end Sys2Proof.Machine
end

