-- ==== Sys2Proof/Machine/Epochs.lean ====
section
/-! DEFINITION. The operations of the Epoch Timer, the Lane Receivers and the Channel Processor: expected sets, the
completeness test, opening and closing an epoch, the epoch record and the crossing detector (chapters 1 and 2). -/

namespace Sys2Proof.Machine

/-! ### Expected sets and completeness (R6, R7) -/

/-- The expected set of a lane: the slots some enabled channel of that lane takes (R6). -/
def expectedSet (t : Table ChannelEntry 16) (l : Fin 4) : SlotSet :=
  BitVec.ofFnLE fun k => t.toList.any fun e => e.enabled && e.lane == l && e.slot == k

/-- The slots a lane still owes. -/
def owed (s : State) (l : Fin 4) : SlotSet := expectedSet s.channels.table l &&& ~~~ s.lanes[l].received

/-- Some participating lane has a slot in its expected set that it has not received (R5, R7). -/
def missingWord (s : State) : Bool :=
  (List.finRange 4).any fun l => has s.timer.participating l && owed s l != 0

/-! ### Values (R24, R25) -/

/-- A number saturated to −32768..32767. -/
def clamp16 (x : Int) : Int := max (-32768) (min 32767 x)

/-- The coded value of a raw value (R24). -/
def codedValue (c : Coding) (raw : BitVec 16) : Int :=
  match c with
  | .bipolar => raw.toInt
  | .unipolar => (raw.toNat : Int) - 32768

/-- The corrected value: coding, then the offset with saturation, then inversion (R25). -/
def correctedValue (e : ChannelEntry) (raw : BitVec 16) : Value :=
  let sum := clamp16 (codedValue e.coding raw + e.offset.toInt)
  BitVec.ofInt 16 (if e.invert then clamp16 (-sum) else sum)

/-! ### The crossing detector (R28, R29, R31) -/

/-- The detector's new state, and the transition it made: rising, falling or none (Table 2-4). -/
def crossingStep (e : ChannelEntry) (v : Value) (st : CrossingState) : CrossingState × Option Direction :=
  let up := e.level.toInt + e.hysteresis
  let down := e.level.toInt - e.hysteresis
  match st with
  | .unknown => if e.level.toInt ≤ v.toInt then (.above, none) else (.below, none)
  | .below => if up ≤ v.toInt then (.above, some .rising) else (.below, none)
  | .above => if v.toInt ≤ down then (.below, some .falling) else (.above, none)

/-- Whether a transition is a counted crossing of the entry's direction (R29). -/
def counted (e : ChannelEntry) (t : Option Direction) : Bool :=
  match t with
  | none => false
  | some d => e.direction == .both || e.direction == d

/-- A crossing reset (R31). -/
def ChannelRuntime.crossingReset (r : ChannelRuntime) : ChannelRuntime :=
  { r with crossing := .unknown, previous := none, lastCrossing := none, lastPeriod := none }

/-- The period fields and the cycle count after a counted crossing in the record of epoch `n` (R29). -/
def ChannelRuntime.countCrossing (n : Epoch) (r : ChannelRuntime) : ChannelRuntime :=
  { r with
    cycleCount := r.cycleCount + 1
    lastPeriod := match r.lastCrossing with
      | some c => some (n - c)
      | none => r.lastPeriod
    lastCrossing := some n }

/-- The peak that holds after a value, `better v p` saying that `v` replaces `p` (R32). -/
def peakOf (better : Int → Int → Bool) (v : Value) : Option Value → Option Value
  | none => some v
  | some p => if better v.toInt p.toInt then some v else some p

/-! ### The epoch record (R26 to R32) -/

/-- One channel settled in the record of epoch `n`: its fields, and its runtime afterwards (R26, R30). -/
def settleChannel (n : Epoch) (e : ChannelEntry) (raw : Option (BitVec 16)) (r : ChannelRuntime) :
    ChannelField × ChannelRuntime :=
  match if e.enabled then raw else none with
  | none => ({ value := none, crossed := false, delta := none }, { r with previous := none })
  | some x =>
    let v := correctedValue e x
    let step := crossingStep e v r.crossing
    let crossed := counted e step.2
    let r' := { r with crossing := step.1 }
    let r' := if crossed then r'.countCrossing n else r'
    ({ value := some v, crossed := crossed, delta := r.previous.map fun p => v.toInt - p.toInt },
     { r' with
       peakMax := peakOf (fun a b => decide (b < a)) v r.peakMax
       peakMin := peakOf (fun a b => decide (a < b)) v r.peakMin
       previous := some v })

/-- The channel settled at the close of epoch `n`, from the table, open values and runtimes as they stand. -/
def settledChannel (p : ChannelProcessor) (n : Epoch) (c : Fin 16) : ChannelField × ChannelRuntime :=
  settleChannel n p.table[c] p.openValues[c] p.runtime[c]

/-- The epoch record of epoch `n` (R26). -/
def buildRecord (p : ChannelProcessor) (n : Epoch) : EpochRecord :=
  { epoch := n, fields := Vector.ofFn fun c => (settledChannel p n c).1 }

/-- The Channel Processor after the build: runtimes updated, open values absent (R26). -/
def afterBuild (p : ChannelProcessor) (n : Epoch) : ChannelProcessor :=
  { p with
    runtime := Vector.ofFn fun c => (settledChannel p n c).2
    openValues := Vector.replicate 16 none }

/-- A record offered to the three consumers (R34). A consumer that has already taken a soft reset the Epoch Timer has
not yet taken is not offered it (R35). -/
def offerRecord (r : EpochRecord) (s : State) : State :=
  let o : Offered := { run := s.timer.resetsTaken, record := r }
  let s := if s.conditions.resetsTaken ≤ o.run then
    s.setConditions { s.conditions with records := s.conditions.records ++ [o] } else s
  let s := if s.capture.resetsTaken ≤ o.run then
    s.setCapture { s.capture with records := s.capture.records ++ [o] } else s
  if s.stream.resetsTaken ≤ o.run then
    s.setStream { s.stream with records := s.stream.records ++ [o] } else s

/-- The Channel Processor takes the close of epoch `n` (R5, R26); it builds no record when it has already taken a soft
reset the Epoch Timer has not (R35). -/
def recordClose (n : Epoch) (s : State) : State :=
  if s.channels.resetsTaken ≤ s.timer.resetsTaken then
    offerRecord (buildRecord s.channels n) (s.setChannels (afterBuild s.channels n))
  else s.setChannels { s.channels with openValues := Vector.replicate 16 none }

/-! ### Opening and closing (R1, R5, R7) -/

/-- Every Lane Receiver with its received-slot set empty. -/
def emptyReceived (lanes : Table Lane 4) : Table Lane 4 := Table.mapAll (fun _ l => { l with received := 0 }) lanes

/-- The close of the open epoch with a cause (R5). -/
def closeEpoch (cause : CloseCause) (s : State) : State :=
  match s.timer.openEpoch with
  | none => s
  | some n =>
    let missing := missingWord s
    let s := s.setTimer { s.timer with openEpoch := none, lastClosed := some n }
    let s := recordClose n s
    let s := if cause ≠ .complete ∧ missing then raise .sampleMissing s else s
    let s := s.setLanes (emptyReceived s.lanes)
    s.setTimer { s.timer with participating := 0 }

/-- The completeness test: an open epoch with no missing word closes COMPLETE (R7). -/
def completenessTest (s : State) : State :=
  if s.timer.openEpoch.isSome ∧ ¬ missingWord s then closeEpoch .complete s else s

/-- The lanes that are LOCKED. -/
def lockedLanes (lanes : Table Lane 4) : LaneSet := BitVec.ofFnLE fun l => lanes[l].state == .locked

/-- The opening of the next epoch: its number, the participating set, the strobe with the low 4 bits of the number,
and the completeness test (R1). -/
def openNext (s : State) : State :=
  let n := s.timer.nextEpoch
  completenessTest (s.setTimer { s.timer with
    nextEpoch := n + 1
    openEpoch := some n
    participating := lockedLanes s.lanes
    strobe := some (n.setWidth 4) })

/-! ### Lanes leaving LOCKED (R14) -/

/-- The crossing reset of every channel whose source lane is in the set (R31). -/
def resetCrossings (lanes : LaneSet) (p : ChannelProcessor) : ChannelProcessor :=
  { p with runtime := Table.mapAll (fun c r => if has lanes p.table[c].lane then r.crossingReset else r) p.runtime }

/-- What lanes leaving LOCKED tell the other blocks (R14): their channels' crossing resets, then their removal from the
participating set and the completeness test. Several lanes leave together only at a WRITE to CONTROL (log entry 7). -/
def lanesLeave (lanes : LaneSet) (s : State) : State :=
  let s := s.setChannels (resetCrossings lanes s.channels)
  completenessTest (s.setTimer { s.timer with participating := s.timer.participating &&& ~~~ lanes })

/-- A LOCKED lane is lost to SEEKING with LANE-FAULT (R12, R13, R14). -/
def loseLane (l : Fin 4) (s : State) : State :=
  let s := raise .laneFault s
  let s := s.setLanes (Table.put s.lanes l { s.lanes[l] with state := .seeking, goodRun := 0, badRun := 0 })
  lanesLeave (single 4 l) s

end Sys2Proof.Machine
end

