-- ==== Sys2Proof/Machine/Lanes.lean ====
section
/-! DEFINITION. The lane symbols and loss of signal at the Lane Receivers (R11 to R17). -/

namespace Sys2Proof.Machine

/-- A lane replaced. -/
def putLane (l : Fin 4) (r : Lane) (s : State) : State := s.setLanes (Table.put s.lanes l r)

/-- A lane word is late: no epoch is open, or its tag is not the low 4 bits of the open epoch's number (R15). -/
def wordLate (tag : BitVec 4) (s : State) : Bool :=
  match s.timer.openEpoch with
  | none => true
  | some n => tag != n.setWidth 4

/-- The raw value given to every enabled channel of this lane and slot (R17, R23). -/
def deliver (l : Fin 4) (k : Fin 8) (raw : BitVec 16) (p : ChannelProcessor) : ChannelProcessor :=
  { p with openValues := Table.mapAll (fun c v =>
      if p.table[c].enabled && p.table[c].lane == l && p.table[c].slot == k then some raw else v) p.openValues }

/-- A word accepted: delivered, its slot received, counted, and the completeness test applied (R17). -/
def acceptWord (l : Fin 4) (k : Fin 8) (raw : BitVec 16) (s : State) : State :=
  let s := s.setChannels (deliver l k raw s.channels)
  let s := putLane l { s.lanes[l] with
    received := s.lanes[l].received ||| single 8 k
    wordsTaken := satAdd Config.count16Max s.lanes[l].wordsTaken 1 } s
  completenessTest s

/-- A word on a LOCKED lane, judged in the order of R15, R16 and R17, the bad-word run already 0 (R12). -/
def judgeWord (l : Fin 4) (tag : BitVec 4) (k : Fin 8) (raw : BitVec 16) (s : State) : State :=
  if wordLate tag s then
    raise .sampleLate (putLane l { s.lanes[l] with
      lateWords := satAdd Config.count16Max s.lanes[l].lateWords 1 } s)
  else if !has (expectedSet s.channels.table l) k then s
  else if has s.lanes[l].received k then raise .laneFault s
  else acceptWord l k raw s

/-- A lane word that passed its check (Table 1-4). -/
def laneWord (l : Fin 4) (tag : BitVec 4) (k : Fin 8) (raw : BitVec 16) (s : State) : State :=
  match s.lanes[l].state with
  | .off | .seeking => s
  | .locked => judgeWord l tag k raw (putLane l { s.lanes[l] with badRun := 0 } s)

/-- A good alignment mark (R11). -/
def alignmentMark (l : Fin 4) (s : State) : State :=
  let r := s.lanes[l]
  match r.state with
  | .off | .locked => s
  | .seeking =>
    if r.goodRun + 1 = Config.marksToLock then putLane l { r with state := .locked, goodRun := 0, badRun := 0 } s
    else putLane l { r with goodRun := r.goodRun + 1 } s

/-- A symbol whose check failed (R11, R12). -/
def badSymbol (l : Fin 4) (s : State) : State :=
  let r := s.lanes[l]
  match r.state with
  | .off => s
  | .seeking => putLane l { r with goodRun := 0 } s
  | .locked =>
    if r.badRun + 1 = Config.badToUnlock then loseLane l s else putLane l { r with badRun := r.badRun + 1 } s

/-- Loss of signal (R13). -/
def laneLossOfSignal (l : Fin 4) (s : State) : State :=
  let r := s.lanes[l]
  match r.state with
  | .off => s
  | .seeking => putLane l { r with goodRun := 0 } s
  | .locked => loseLane l s

/-- LANE_WORD (R15, R16, R17). -/
def execLaneWord (lane : Fin 4) (tag : BitVec 4) (slot : Fin 8) (raw : BitVec 16) (s : State) :
    Host.Outcome State Fault Refusal := .next (laneWord lane tag slot raw s)

/-- ALIGNMENT_MARK (R11). -/
def execAlignmentMark (lane : Fin 4) (s : State) : Host.Outcome State Fault Refusal := .next (alignmentMark lane s)

/-- BAD_SYMBOL (R11, R12). -/
def execBadSymbol (lane : Fin 4) (s : State) : Host.Outcome State Fault Refusal := .next (badSymbol lane s)

/-- LANE_LOSS_OF_SIGNAL (R13). -/
def execLaneLossOfSignal (lane : Fin 4) (s : State) : Host.Outcome State Fault Refusal :=
  .next (laneLossOfSignal lane s)

end Sys2Proof.Machine
end

