-- ==== Sys2Proof/Machine/Stream.lean ====
section
/-! DEFINITION. The Stream Forwarder: decimation, stream frames, the stream queue, link loss (chapter 7). -/

namespace Sys2Proof.Machine

/-- A channel counts down: it is enabled with forward yes (R115). -/
def StreamView.counts (v : StreamView) : Bool := v.enabled && v.forward

/-- A channel's counter after a record: lowered by 1 when it counts, reloaded with the divisor at 0 (R115). -/
def counterAfter (v : StreamView) (n : Nat) : Nat :=
  if v.counts then (if n - 1 = 0 then v.divisor else n - 1) else n

/-- A channel is due in a record: it counts and its counter reaches 0 (R115). -/
def channelDue (v : StreamView) (n : Nat) : Bool := v.counts && n - 1 == 0

/-- What the Stream Forwarder reads of a channel when it takes the next record: the entry of the channel table as it
stands (R115), or, of a record built before a write whose reload it has still to take, the entry that write replaced
(R116; log entry 6). -/
def viewOf (table : Table ChannelEntry 16) (reloads : List Reload) (c : Fin 16) : StreamView :=
  match reloads.find? fun r => r.channel == c && r.before != 0 with
  | some r => r.replaced
  | none => table[c].streamView

/-- The reloads still to be taken, one waiting record fewer. -/
def recordPassed (reloads : List Reload) : List Reload := reloads.map fun r => { r with before := r.before - 1 }

/-- The selection of a record: the due channels in increasing order, with their values (R115). -/
def selection (view : Fin 16 → StreamView) (counters : Table Nat 16) (rec : EpochRecord) :
    List (Fin 16 × Option Value) :=
  ((List.finRange 16).filter fun c => channelDue (view c) counters[c]).map fun c => (c, rec.fields[c].value)

/-- A built frame is queued, or discarded with STREAM-GAP when the queue holds 16 frames (R118, R119). -/
def queueFrame (epoch : Epoch) (values : List (Fin 16 × Option Value)) (s : State) : State :=
  let f := s.stream
  if f.queue.length < Config.streamQueueMax then
    s.setStream { f with
      queue := f.queue ++ [{ epoch := epoch, sequence := f.sequence, gapCount := f.gapCount, values := values }]
      sequence := f.sequence + 1
      gapCount := 0 }
  else raise .streamGap (s.setStream { f with gapCount := satAdd Config.count16Max f.gapCount 1 })

/-- The Stream Forwarder's taking of a record already removed from the queue (R115, R117). -/
def streamRecord (rec : EpochRecord) (s : State) : State :=
  let view := viewOf s.channels.table s.stream.reloads
  let due := selection view s.stream.counters rec
  let s := s.setStream { s.stream with
    counters := Table.mapAll (fun c n => counterAfter (view c) n) s.stream.counters
    reloads := recordPassed s.stream.reloads }
  if due ≠ [] ∧ s.mgmt.control.streamEnable then queueFrame rec.epoch due s else s

/-- The Stream Forwarder takes the next record offered to it (R115). A record of a run that began after a soft reset
the Stream Forwarder has still to take waits for it (R35; log entry 2). -/
def streamRecordTake (s : State) : State :=
  match s.stream.records with
  | [] => s
  | o :: rest =>
    if o.run = s.stream.resetsTaken then
      arbitrate (streamRecord o.record (s.setStream { s.stream with records := rest }))
    else s

/-- The Stream Forwarder takes the next reload: the counter is the divisor of the written entry (R116). The manual
orders no two waiting reloads; taking them in the order of their writes is the model's choice (log entry 18, a DESIGN
CHOICE). -/
def decimationReload (s : State) : State :=
  match s.stream.reloads with
  | [] => s
  | r :: rest => s.setStream { s.stream with
      reloads := rest
      counters := Table.put s.stream.counters r.channel r.divisor }

/-- The Stream Forwarder takes the completion reported next: the head leaves the queue and the next frame is offered
(R120). It has no effect when the frame was given up at a soft reset (R122). -/
def takeStreamCompletion (s : State) : State :=
  match s.stream.inbox with
  | .completion void :: rest =>
    let f := { s.stream with inbox := rest }
    if void || f.headMark == .offered then s.setStream f
    else s.setStream { f with queue := f.queue.tail, headMark := .offered }
  | _ => s

/-- The completion of a stream frame, with the start the next offer may bring (R120, R152); nothing happens when none
is reported (log entry 1). -/
def streamFrameCompletion (s : State) : State :=
  match s.stream.inbox with
  | .completion _ :: _ => arbitrate (takeStreamCompletion s)
  | _ => s

/-- The Stream Forwarder takes a link loss: every queued frame is discarded and counted (R121). -/
def linkLossStream (s : State) : State :=
  match s.stream.inbox with
  | .linkLoss :: rest =>
    let s := giveUpFrames .stream (s.setStream { s.stream with inbox := rest })
    s.setStream { s.stream with
      queue := []
      headMark := .offered
      gapCount := satAdd Config.count16Max s.stream.gapCount s.stream.queue.length }
  | _ => s

/-- STREAM_RECORD_TAKE (R115, R117 to R119). -/
def execStreamRecordTake (s : State) : Host.Outcome State Fault Refusal := .next (streamRecordTake s)

/-- DECIMATION_RELOAD (R116). -/
def execDecimationReload (s : State) : Host.Outcome State Fault Refusal := .next (decimationReload s)

/-- STREAM_FRAME_COMPLETION (R120). -/
def execStreamFrameCompletion (s : State) : Host.Outcome State Fault Refusal := .next (streamFrameCompletion s)

/-- LINK_LOSS_STREAM (R121). -/
def execLinkLossStream (s : State) : Host.Outcome State Fault Refusal := .next (linkLossStream s)

end Sys2Proof.Machine
end

