-- ==== Sys2Proof/Machine/Link.lean ====
section
/-! DEFINITION. The Link Controller's events (chapter 10). -/

namespace Sys2Proof.Machine

/-- In TRAINING with the transmitter IDLE an upstream TRAIN frame carrying the train run starts, without credit
(R147). -/
def startTrain (s : State) : State :=
  if s.link.state = .training ∧ s.link.tx = none then
    s.setLink { s.link with tx := some { frame := .train s.link.trainRun, source := .training, void := false } }
  else s

/-- The link enters DOWN: runs and credit 0, the frame in transmission lost, and the loss told to the four blocks that
hold link traffic (R146). -/
def enterDown (s : State) : State :=
  let s := s.setLink { state := .down, trainRun := 0, badRun := 0, credit := 0, tx := none }
  report .stream .linkLoss (report .delivery .linkLoss (report .alert .linkLoss (report .reply .linkLoss s)))

/-- Signal detected (R145): in DOWN the link enters TRAINING and the first TRAIN frame starts. -/
def signalDetected (s : State) : State :=
  match s.link.state with
  | .down => startTrain (s.setLink { s.link with state := .training })
  | .training | .up => s

/-- Loss of signal (R145, R146). -/
def linkLossOfSignal (s : State) : State :=
  match s.link.state with
  | .down => s
  | .training | .up => enterDown s

/-- A valid frame other than TRAIN in TRAINING: the train run is 0 and the frame is discarded (R148). -/
def breakTraining (s : State) : State := s.setLink { s.link with trainRun := 0 }

/-- A valid frame in UP sets the bad-frame run to 0 (R150). -/
def goodFrame (s : State) : State := s.setLink { s.link with badRun := 0 }

/-- A valid TRAIN frame (R148, R149, R150). -/
def trainFrame (s : State) : State :=
  match s.link.state with
  | .down => s
  | .training =>
    if s.link.trainRun + 1 = Config.trainsToUp then s.setLink { s.link with state := .up, trainRun := 0 }
    else s.setLink { s.link with trainRun := s.link.trainRun + 1 }
  | .up => goodFrame s

/-- A bad frame (R148, R150). -/
def badFrame (s : State) : State :=
  match s.link.state with
  | .down => s
  | .training => breakTraining s
  | .up =>
    let s := raise .linkProtocol s
    if s.link.badRun + 1 = Config.badToDown then enterDown s
    else s.setLink { s.link with badRun := s.link.badRun + 1 }

/-- A REQUEST frame whose check passed: bad when its length is none of the seven (R150), otherwise discarded in
TRAINING (R148) and handed to the Management Engine in UP (R150). -/
def requestFrame (tag : Byte) (body : List Byte) (s : State) : State :=
  match requestLengths.contains body.length, Request.ofBody tag body with
  | true, some r =>
    match s.link.state with
    | .down => s
    | .training => breakTraining s
    | .up => report .reply (.request r) (goodFrame s)
  | _, _ => badFrame s

/-- A grant added to the credit; what exceeds 255 is lost and raises LINK-PROTOCOL (R151). -/
def grant (count : Byte) (s : State) : State :=
  let sum := s.link.credit + count.toNat
  let s := if Config.creditMax < sum then raise .linkProtocol s else s
  s.setLink { s.link with credit := min Config.creditMax sum }

/-- A valid CREDIT frame (R148, R151). -/
def creditFrame (count : Byte) (s : State) : State :=
  match s.link.state with
  | .down => s
  | .training => breakTraining s
  | .up => arbitrate (grant count (goodFrame s))

/-- The source takes the completion just reported before the arbiter's next start, as R153 allows for the capture and
stream sources; a source that has earlier reports still to take does not (R146). -/
def completeFirst (src : Source) (s : State) : State :=
  match src with
  | .delivery => if s.delivery.inbox.length = 1 then takeCaptureCompletion s else s
  | .stream => if s.stream.inbox.length = 1 then takeStreamCompletion s else s
  | .training | .reply | .alert => s

/-- The transmitter free for its next frame: a TRAIN frame in TRAINING (R147), the arbiter's start in UP (R152). -/
def nextFrame (s : State) : State :=
  match s.link.state with
  | .down => s
  | .training => startTrain s
  | .up => arbitrate s

/-- The end of a transmission (R154): the transmitter is IDLE, the completion is reported to the source, and the next
frame may start. `sourceFirst` is the choice R153 leaves open. -/
def transmissionCompletion (sourceFirst : Bool) (s : State) : State :=
  match s.link.tx with
  | none => s
  | some t =>
    let s := report t.source (.completion t.void) (s.setLink { s.link with tx := none })
    nextFrame (if sourceFirst then completeFirst t.source s else s)

/-- SIGNAL_DETECTED (R145). -/
def execSignalDetected (s : State) : Host.Outcome State Fault Refusal := .next (signalDetected s)

/-- LINK_LOSS_OF_SIGNAL (R146). -/
def execLinkLossOfSignal (s : State) : Host.Outcome State Fault Refusal := .next (linkLossOfSignal s)

/-- TRAIN_FRAME (R148, R149). -/
def execTrainFrame (s : State) : Host.Outcome State Fault Refusal := .next (trainFrame s)

/-- REQUEST_FRAME (R148, R150). -/
def execRequestFrame (tag : Byte) (body : List Byte) (s : State) : Host.Outcome State Fault Refusal :=
  .next (requestFrame tag body s)

/-- CREDIT_FRAME (R148, R151). -/
def execCreditFrame (count : Byte) (s : State) : Host.Outcome State Fault Refusal := .next (creditFrame count s)

/-- BAD_FRAME (R148, R150). -/
def execBadFrame (s : State) : Host.Outcome State Fault Refusal := .next (badFrame s)

/-- TRANSMISSION_COMPLETION (R153, R154). -/
def execTransmissionCompletion (sourceFirst : Bool) (s : State) : Host.Outcome State Fault Refusal :=
  .next (transmissionCompletion sourceFirst s)

end Sys2Proof.Machine
end

