-- ==== Sys2Proof/Machine/Requests.lean ====
section
/-! DEFINITION. The Management Engine: arrival, completion of a reply, link loss, and the requests COMMIT,
DISCARD-EDITS, FIRE, STATUS, RESET and those of unknown kind (chapter 11, R67, R68, R126, R131). -/

namespace Sys2Proof.Machine

/-- The Management Engine takes the arrival reported next: the request joins the queue and U rises, or with U at 8 it
is discarded with LINK-PROTOCOL (R158). -/
def requestArrival (s : State) : State :=
  match s.mgmt.inbox with
  | .request r :: rest =>
    let m := { s.mgmt with inbox := rest }
    if m.unanswered < Config.unansweredMax then
      s.setMgmt { m with requests := m.requests ++ [r], unanswered := m.unanswered + 1 }
    else raise .linkProtocol (s.setMgmt m)
  | _ => s

/-- The Management Engine takes the completion reported next: the oldest reply in transmission is done and U falls; a
reply given up at a soft reset changes nothing (R162, R168). -/
def replyCompletion (s : State) : State :=
  match s.mgmt.inbox with
  | .completion void :: rest =>
    let m := { s.mgmt with inbox := rest }
    match void, m.inTransmission with
    | false, _ :: later => s.setMgmt { m with inTransmission := later, unanswered := m.unanswered - 1 }
    | _, _ => s.setMgmt m
  | _ => s

/-- The Management Engine takes a link loss (R170). -/
def linkLossManagement (s : State) : State :=
  match s.mgmt.inbox with
  | .linkLoss :: rest =>
    let s := giveUpFrames .reply (s.setMgmt { s.mgmt with inbox := rest })
    s.setMgmt { s.mgmt with
      requests := []
      exec := .idle
      replies := []
      inTransmission := []
      deferred := none
      unanswered := 0 }
  | _ => s

/-- A COMMIT that must wait becomes pending: the request leaves the queue and its reply waits in the deferred reply
slot (R126, R130). -/
def deferCommit (q : Request) (s : State) : State :=
  let s := s.setConditions { s.conditions with commit := .pending }
  s.setMgmt { s.mgmt with requests := s.mgmt.requests.tail, deferred := some q.tag }

/-- The COMMIT request (R126). -/
def commit (q : Request) (s : State) : State :=
  match s.conditions.commit, s.timer.state with
  | .pending, _ => refuse .busy s
  | .none, .stopped =>
    let s := s.setConditions (swapBanks s.conditions)
    finishHead .ok (.commit s.conditions.generation s.conditions.nextWalk) s
  | .none, .running => deferCommit q s

/-- The DISCARD-EDITS request (R131). -/
def discardEdits (_q : Request) (s : State) : State :=
  match s.conditions.commit with
  | .pending => refuse .busy s
  | .none =>
    finishHead .ok (.generation s.conditions.generation) (s.setConditions { s.conditions with edit := s.conditions.live })

/-- A forced fire of trigger `t` at the last closed epoch `l`, sent to unit `u`; the FIRE request waits for its answer
(R68, R69). -/
def forceFire (t : Fin 8) (u : Fin 4) (l : Epoch) (s : State) : State :=
  let w := s.mgmt.nextWaiter
  let s := sendFire { unit := u, trigger := t, epoch := l, generation := s.conditions.generation, forced := true,
                      waiter := some w } s
  s.setMgmt { s.mgmt with exec := .awaitAnswer w t l, nextWaiter := w + 1 }

/-- The FIRE request (R67, R68). -/
def fire (q : Request) (s : State) : State :=
  match finOf 8 q.operand.toNat with
  | none => refuse .badIndex s
  | some t =>
    match s.timer.lastClosed with
    | none => refuse .wrongState s
    | some l =>
      let s := putTrigger t (s.conditions.triggers[t].countFire l) s
      match s.conditions.live.triggers[t].target with
      | none => finishHead .ok (.fire t none l) s
      | some u => forceFire t u l s

/-- The summary of a STATUS reply (Table 11-6). The link state is UP in every one (R167). -/
def statusSummary (s : State) : StatusSummary :=
  { timer := s.timer.state
    lastClosed := s.timer.lastClosed
    units := Table.mapAll (fun _ u => u.state) s.capture.units
    drainQueue := s.capture.drainQueue
    commit := s.conditions.commit
    generation := s.conditions.generation
    link := .up
    credit := s.link.credit
    alert := s.alerts.state
    alertSequence := s.alerts.sequence
    outstanding := s.alerts.outstanding
    otherUnanswered := s.mgmt.unanswered - 1 }

/-- The STATUS request (R167). -/
def status (_q : Request) (s : State) : State := finishHead .ok (.status (statusSummary s)) s

/-- A request of a kind outside Table 11-2 (R160). -/
def unknownKind (_q : Request) (s : State) : State := refuse .unknownKind s

/-- The RESET request (R168): the void count is kept, every later request and every reply is discarded, U is 1, and
the soft reset is handed to every block. -/
def resetRequest (q : Request) (s : State) : State :=
  let s := giveUpFrames .reply s
  s.setMgmt { s.mgmt with
    requests := [q]
    exec := .awaitReset (s.mgmt.unanswered - 1)
    replies := []
    inTransmission := []
    deferred := none
    unanswered := 1
    resetsIssued := s.mgmt.resetsIssued + 1 }

/-- Every block has taken every soft reset handed to it (R169). -/
def allResetsTaken (s : State) : Bool :=
  s.timer.resetsTaken == s.mgmt.resetsIssued && s.channels.resetsTaken == s.mgmt.resetsIssued &&
    s.conditions.resetsTaken == s.mgmt.resetsIssued && s.capture.resetsTaken == s.mgmt.resetsIssued &&
    s.delivery.resetsTaken == s.mgmt.resetsIssued && s.stream.resetsTaken == s.mgmt.resetsIssued &&
    s.alerts.resetsTaken == s.mgmt.resetsIssued

/-- The RESET request finishes when every block has taken the soft reset (R169). -/
def softResetDone (s : State) : State :=
  match s.mgmt.exec with
  | .awaitReset n => if allResetsTaken s then arbitrate (finishHead .ok (.voids n) s) else s
  | .idle | .awaitAnswer _ _ _ => s

/-- REQUEST_ARRIVAL (R158). -/
def execRequestArrival (s : State) : Host.Outcome State Fault Refusal := .next (requestArrival s)

/-- REPLY_COMPLETION (R162). -/
def execReplyCompletion (s : State) : Host.Outcome State Fault Refusal := .next (replyCompletion s)

/-- LINK_LOSS_MANAGEMENT (R170). -/
def execLinkLossManagement (s : State) : Host.Outcome State Fault Refusal := .next (linkLossManagement s)

/-- COMMIT (R126). -/
def execCommit (s : State) : Host.Outcome State Fault Refusal := .next (execHead .commit commit s)

/-- DISCARD_EDITS (R131). -/
def execDiscardEdits (s : State) : Host.Outcome State Fault Refusal := .next (execHead .discardEdits discardEdits s)

/-- FIRE (R67, R68, R69). -/
def execFire (s : State) : Host.Outcome State Fault Refusal := .next (execHead .fire fire s)

/-- STATUS (R167). -/
def execStatus (s : State) : Host.Outcome State Fault Refusal := .next (execHead .status status s)

/-- UNKNOWN_KIND (R160). -/
def execUnknownKind (s : State) : Host.Outcome State Fault Refusal := .next (execHead .unknownKind unknownKind s)

/-- RESET (R168). -/
def execReset (s : State) : Host.Outcome State Fault Refusal := .next (execHead .reset resetRequest s)

/-- SOFT_RESET_DONE (R169). -/
def execSoftResetDone (s : State) : Host.Outcome State Fault Refusal := .next (softResetDone s)

end Sys2Proof.Machine
end

