-- ==== Sys2Proof/Machine/SoftReset.lean ====
section
/-! DEFINITION. The soft reset as each block takes it (R18, R35, R71, R96, R113, R122, R132, R143). A block takes a
reset only when RESET has handed it one it has not taken (R168, R169). -/

namespace Sys2Proof.Machine

/-- Records of the runs before a block's `taken`-th soft reset are withdrawn (R35). -/
def keepRun (taken : Nat) (records : List Offered) : List Offered := records.filter fun o => decide (taken ≤ o.run)

/-- A deferred COMMIT reply of a commit the reset cancels is discarded and no longer counted (R132, R163; log entry
9). RESET has emptied the slot already, unless a COMMIT was executed after a link loss had ended that RESET. -/
def dropDeferred (s : State) : State :=
  match s.mgmt.deferred with
  | none => s
  | some _ => s.setMgmt { s.mgmt with deferred := none, unanswered := s.mgmt.unanswered - 1 }

/-- A pending commit cancelled without a swap (R132). -/
def cancelCommit (s : State) : State := dropDeferred (s.setConditions { s.conditions with commit := .none })

/-- The Epoch Timer and the Lane Receivers over a soft reset (R18); the values delivered for the discarded epoch go
with it (R18, R23). A commit pending while the Condition Engine has already taken this reset, which is a COMMIT
executed between the two after a link loss had ended the RESET, is cancelled here, so that it does not stay pending
through the stop (R124). No rule says where, and the model chooses (log entry 16, a DESIGN CHOICE): the timer does
it when the Condition Engine is past this reset, and otherwise leaves the commit to that block's own reset (R132). -/
def resetTimer (s : State) : State :=
  let s := if s.timer.resetsTaken < s.conditions.resetsTaken then cancelCommit s else s
  let s := s.setTimer { s.timer with
    state := .stopped
    nextEpoch := 0
    openEpoch := none
    participating := 0
    lastClosed := none
    periodTimer := none
    resetsTaken := s.timer.resetsTaken + 1 }
  let s := s.setLanes (Table.mapAll (fun _ l => { l with received := 0, wordsTaken := 0, lateWords := 0 }) s.lanes)
  s.setChannels { s.channels with openValues := Vector.replicate 16 none }

/-- The Channel Processor over a soft reset (R35). -/
def resetChannels (s : State) : State :=
  s.setChannels { s.channels with
    openValues := Vector.replicate 16 none
    runtime := Vector.replicate 16 ChannelRuntime.cleared
    resetsTaken := s.channels.resetsTaken + 1 }

/-- The Condition Engine over a soft reset (R71, R132): trigger runtimes cleared, a pending commit cancelled, the fire
requests it sent and the answers on their way to it withdrawn, the banks and the generation kept. -/
def resetConditions (s : State) : State :=
  let s := s.setConditions { s.conditions with
    triggers := Vector.replicate 8 TriggerRuntime.cleared
    commit := .none
    nextWalk := 0
    records := keepRun (s.conditions.resetsTaken + 1) s.conditions.records
    answers := []
    resetsTaken := s.conditions.resetsTaken + 1 }
  dropDeferred (s.setCapture { s.capture with fires := [] })

/-- The Capture Controller over a soft reset (R96): every unit IDLE with its capture discarded, the queues and
counters cleared, the configurations kept. -/
def resetCapture (s : State) : State :=
  s.setCapture { s.capture with
    units := Vector.replicate 4 UnitRuntime.cleared
    number := 0
    nextRecord := 0
    drainQueue := []
    records := keepRun (s.capture.resetsTaken + 1) s.capture.records
    fires := []
    resetsTaken := s.capture.resetsTaken + 1 }

/-- The Delivery Engine over a soft reset: the drain is abandoned without an END, and a frame on the link no longer
concerns it (R113). -/
def resetDelivery (s : State) : State :=
  let s := giveUpFrames .delivery s
  s.setDelivery { s.delivery with drain := none, resetsTaken := s.delivery.resetsTaken + 1 }

/-- The Stream Forwarder over a soft reset (R122): the queue emptied, sequence and gap count 0, every counter reloaded
with its channel's divisor, and a frame on the link no longer of concern. The reloads handed over before have nothing
left to do (log entry 6). -/
def resetStream (s : State) : State :=
  let s := giveUpFrames .stream s
  s.setStream { s.stream with
    counters := Table.mapAll (fun _ e => e.divisor) s.channels.table
    queue := []
    headMark := .offered
    sequence := 0
    gapCount := 0
    records := keepRun (s.stream.resetsTaken + 1) s.stream.records
    reloads := []
    resetsTaken := s.stream.resetsTaken + 1 }

/-- The Alert Unit over a soft reset (R143): every item of Table 9-2 cleared; raises still to be taken are not. -/
def resetAlerts (s : State) : State :=
  let s := giveUpFrames .alert s
  s.setAlerts { s.alerts with
    pending := 0
    reported := 0
    state := .quiet
    sequence := 0
    outstanding := none
    repeatCount := 0
    timerRunning := false
    offer := .none
    sent := 0
    reRaised := 0
    resetsTaken := s.alerts.resetsTaken + 1 }

/-- A block with `taken` soft resets taken takes one more, if one has been handed to it (R168). -/
def takeReset (taken : Nat) (act : State → State) (s : State) : State :=
  if taken < s.mgmt.resetsIssued then act s else s

/-- SOFT_RESET_EPOCH_TIMER (R18). -/
def execSoftResetEpochTimer (s : State) : Host.Outcome State Fault Refusal :=
  .next (takeReset s.timer.resetsTaken resetTimer s)

/-- SOFT_RESET_CHANNEL_PROCESSOR (R35). -/
def execSoftResetChannelProcessor (s : State) : Host.Outcome State Fault Refusal :=
  .next (takeReset s.channels.resetsTaken resetChannels s)

/-- SOFT_RESET_CONDITION_ENGINE (R71, R132). -/
def execSoftResetConditionEngine (s : State) : Host.Outcome State Fault Refusal :=
  .next (takeReset s.conditions.resetsTaken resetConditions s)

/-- SOFT_RESET_CAPTURE_CONTROLLER (R96). -/
def execSoftResetCaptureController (s : State) : Host.Outcome State Fault Refusal :=
  .next (takeReset s.capture.resetsTaken resetCapture s)

/-- SOFT_RESET_DELIVERY_ENGINE (R113). -/
def execSoftResetDeliveryEngine (s : State) : Host.Outcome State Fault Refusal :=
  .next (takeReset s.delivery.resetsTaken resetDelivery s)

/-- SOFT_RESET_STREAM_FORWARDER (R122). -/
def execSoftResetStreamForwarder (s : State) : Host.Outcome State Fault Refusal :=
  .next (takeReset s.stream.resetsTaken resetStream s)

/-- SOFT_RESET_ALERT_UNIT (R143). -/
def execSoftResetAlertUnit (s : State) : Host.Outcome State Fault Refusal :=
  .next (takeReset s.alerts.resetsTaken resetAlerts s)

end Sys2Proof.Machine
end

