-- ==== Sys2Proof/Machine/Tables.lean ====
section
/-! DEFINITION. READ and WRITE of the ten tables (R164, R165, and the rules of Table 11-3). -/

namespace Sys2Proof.Machine

/-! ### READ -/

/-- The readable part of a unit's runtime (Table 5-3). -/
def UnitRuntime.statusEntry (u : UnitRuntime) : UnitStatusEntry :=
  { state := u.state, slotCount := u.ring.length, startEpoch := u.startEpoch, oldest := u.ring.head?.map (·.epoch),
    newest := u.ring.getLast?.map (·.epoch), postEnd := u.postEnd, countFrom := u.countFrom,
    crossings := u.crossings, attempt := u.attempt, record := u.record }

/-- The readable part of a lane (R9). -/
def Lane.statusEntry (l : Lane) : LaneStatusEntry :=
  { state := l.state, goodRun := l.goodRun, badRun := l.badRun, wordsTaken := l.wordsTaken, lateWords := l.lateWords }

/-- The named bank. -/
def ConditionEngine.bank (c : ConditionEngine) : BankName → Bank
  | .edit => c.edit
  | .live => c.live

/-- An entry of an unbanked table: BAD-INDEX outside it (R9, R19, R61, R73, R76, R164). -/
def readPlain (n : Nat) (q : Request) (entry : Fin n → TableEntry) : Except Status (BankName × TableEntry) :=
  match finOf n q.index.toNat with
  | none => .error .badIndex
  | some i => .ok (.edit, entry i)

/-- An entry of a banked table: the index is checked first, then the bank operand (R39, R60). -/
def readBanked (n : Nat) (q : Request) (entry : BankName → Fin n → TableEntry) :
    Except Status (BankName × TableEntry) :=
  match finOf n q.index.toNat with
  | none => .error .badIndex
  | some i => match q.bank with
    | none => .error .badValue
    | some b => .ok (b, entry b i)

/-- What a READ of a table returns: the entry with the bank it is of, or the refusing status (R164). -/
def readEntry (s : State) (q : Request) : TableName → Except Status (BankName × TableEntry)
  | .control => readPlain 1 q fun _ => .control s.mgmt.control
  | .channel => readPlain 16 q fun i => .channel s.channels.table[i]
  | .channelRuntime => readPlain 16 q fun i => .channelRuntime s.channels.runtime[i]
  | .level => readBanked 32 q fun b i => .level (s.conditions.bank b).levels[i]
  | .condition => readBanked 64 q fun b i => .condition (s.conditions.bank b).list[i]
  | .trigger => readBanked 8 q fun b i => .trigger (s.conditions.bank b).triggers[i]
  | .triggerRuntime => readPlain 8 q fun i => .triggerRuntime s.conditions.triggers[i]
  | .unit => readPlain 4 q fun i => .unit s.capture.configs[i]
  | .unitStatus => readPlain 4 q fun i => .unitStatus s.capture.units[i].statusEntry
  | .laneStatus => readPlain 4 q fun i => .laneStatus s.lanes[i].statusEntry

/-- The reply to a READ of a named table (R164). -/
def answerRead (q : Request) (table : TableName) (s : State) : State :=
  match readEntry s q table with
  | .error status => refuse status s
  | .ok (bank, entry) => finishHead .ok (.read table q.index bank entry) s

/-- The READ request of a table other than CHANNEL-RUNTIME; BAD-TABLE for none of the ten (R164). -/
def read (q : Request) (s : State) : State :=
  match q.table with
  | none => refuse .badTable s
  | some table => answerRead q table s

/-- A channel's peaks cleared (R33). -/
def clearPeaks (c : Fin 16) (s : State) : State :=
  let r := { s.channels.runtime[c] with peakMax := none, peakMin := none }
  s.setChannels { s.channels with runtime := Table.put s.channels.runtime c r }

/-- The READ of CHANNEL-RUNTIME: the record is copied into the reply, and then with the clear option both peaks become
absent (R33). -/
def readChannelRuntime (q : Request) (s : State) : State :=
  let answered := answerRead q .channelRuntime s
  match finOf 16 q.index.toNat with
  | none => answered
  | some c => if q.clear then clearPeaks c answered else answered

/-! ### WRITE -/

/-- The WRITE of no table, BAD-TABLE, or of a read-only table, READ-ONLY (R165). -/
def write (q : Request) (s : State) : State :=
  match q.table with
  | none => refuse .badTable s
  | some _ => refuse .readOnly s

/-- A lane after its enable changed from `was` to `now` (R10). -/
def enabledLane (was now : Bool) (l : Lane) : Lane :=
  match was, now with
  | true, false => { l with state := .off, goodRun := 0, badRun := 0 }
  | false, true => { l with state := .seeking, goodRun := 0, badRun := 0 }
  | _, _ => l

/-- The LOCKED lanes a new enable set disables (R10). -/
def disabledLocked (s : State) (now : LaneSet) : LaneSet :=
  BitVec.ofFnLE fun l => s.lanes[l].state == .locked && has s.mgmt.control.lanes l && !has now l

/-- The control record replaced, each change acting at once (R10, R141, R166). -/
def applyControl (r : ControlRecord) (s : State) : State :=
  let was := s.mgmt.control.lanes
  let leaving := disabledLocked s r.lanes
  let s := s.setLanes (Table.mapAll (fun l x => enabledLane (has was l) (has r.lanes l) x) s.lanes)
  let s := s.setMgmt { s.mgmt with control := r }
  let s := if leaving = 0 then s else lanesLeave leaving s
  settleAlerts s

/-- The WRITE of CONTROL, with the checks of R166 in their order. -/
def writeControl (q : Request) (s : State) : State :=
  if q.index ≠ 0 then refuse .badIndex s
  else match controlOf q.payload with
    | none => refuse .badValue s
    | some r =>
      if s.timer.state = .running ∧ r.period ≠ s.mgmt.control.period then refuse .busy s
      else finishHead .ok (.wrote .control q.index) (applyControl r s)

/-- A participating lane's expected set differs between two channel tables (R7). -/
def expectedChanged (participating : LaneSet) (a b : Table ChannelEntry 16) : Bool :=
  (List.finRange 4).any fun l => has participating l && expectedSet a l != expectedSet b l

/-- The channel's part of an accepted write: the entry replaced, the crossing reset, the open value dropped (R21). -/
def replaceChannel (c : Fin 16) (e : ChannelEntry) (p : ChannelProcessor) : ChannelProcessor :=
  { p with
    table := Table.put p.table c e
    runtime := Table.put p.runtime c p.runtime[c].crossingReset
    openValues := Table.put p.openValues c none }

/-- The reload an accepted write of channel `c` hands to the Stream Forwarder (R116); the record of a close that the
write itself brings is built after it. -/
def reloadOf (c : Fin 16) (e : ChannelEntry) (s : State) : Reload :=
  { channel := c, divisor := e.divisor, replaced := s.channels.table[c].streamView, before := s.stream.records.length }

/-- An accepted channel write: the reload is handed to the Stream Forwarder (R116), and the completeness test applied
when the expected set of a participating lane changed (R7, R21). -/
def applyChannel (c : Fin 16) (e : ChannelEntry) (s : State) : State :=
  let old := s.channels.table
  let s := s.setStream { s.stream with reloads := s.stream.reloads ++ [reloadOf c e s] }
  let s := s.setChannels (replaceChannel c e s.channels)
  if expectedChanged s.timer.participating old s.channels.table then completenessTest s else s

/-- The WRITE of CHANNEL, with the checks of R20 in their order. -/
def writeChannel (q : Request) (s : State) : State :=
  match finOf 16 q.index.toNat with
  | none => refuse .badIndex s
  | some c => match channelOf q.payload with
    | none => refuse .badValue s
    | some e =>
      if has (protectedSet s) c then refuse .busy s
      else finishHead .ok (.wrote .channel q.index) (applyChannel c e s)

/-- The EDIT bank replaced. -/
def setEdit (b : Bank) (s : State) : State := s.setConditions { s.conditions with edit := b }

/-- A WRITE of a banked table: index, then length and values, then the commit-pending check (R40, R41, R60, R125). -/
def writeBanked {α : Type} (n : Nat) (table : TableName) (decode : List Byte → Option α)
    (put : Fin n → α → Bank → Bank) (q : Request) (s : State) : State :=
  match finOf n q.index.toNat with
  | none => refuse .badIndex s
  | some i => match decode q.payload with
    | none => refuse .badValue s
    | some a => match s.conditions.commit with
      | .pending => refuse .busy s
      | .none => finishHead .ok (.wrote table q.index) (setEdit (put i a s.conditions.edit) s)

/-- The WRITE of LEVEL (R40). -/
def writeLevel (q : Request) (s : State) : State :=
  writeBanked 32 .level levelOf (fun i v b => { b with levels := Table.put b.levels i v }) q s

/-- The WRITE of CONDITION (R41). -/
def writeCondition (q : Request) (s : State) : State :=
  writeBanked 64 .condition conditionOf (fun i e b => { b with list := Table.put b.list i e }) q s

/-- The WRITE of TRIGGER (R60). -/
def writeTrigger (q : Request) (s : State) : State :=
  writeBanked 8 .trigger triggerOf (fun i e b => { b with triggers := Table.put b.triggers i e }) q s

/-- The WRITE of UNIT, with the checks of R74 in their order. -/
def writeUnit (q : Request) (s : State) : State :=
  match finOf 4 q.index.toNat with
  | none => refuse .badIndex s
  | some u => match unitOf q.payload with
    | none => refuse .badValue s
    | some c =>
      if s.capture.units[u].state = .idle then
        finishHead .ok (.wrote .unit q.index)
          (s.setCapture { s.capture with configs := Table.put s.capture.configs u c })
      else refuse .wrongState s

/-- READ (R164). -/
def execRead (s : State) : Host.Outcome State Fault Refusal := .next (execHead .read read s)

/-- READ_CHANNEL_RUNTIME (R33). -/
def execReadChannelRuntime (s : State) : Host.Outcome State Fault Refusal :=
  .next (execHead .readChannelRuntime readChannelRuntime s)

/-- WRITE (R165). -/
def execWrite (s : State) : Host.Outcome State Fault Refusal := .next (execHead .write write s)

/-- WRITE_CONTROL (R10, R166). -/
def execWriteControl (s : State) : Host.Outcome State Fault Refusal := .next (execHead .writeControl writeControl s)

/-- WRITE_CHANNEL (R20, R21). -/
def execWriteChannel (s : State) : Host.Outcome State Fault Refusal := .next (execHead .writeChannel writeChannel s)

/-- WRITE_LEVEL (R40). -/
def execWriteLevel (s : State) : Host.Outcome State Fault Refusal := .next (execHead .writeLevel writeLevel s)

/-- WRITE_CONDITION (R41). -/
def execWriteCondition (s : State) : Host.Outcome State Fault Refusal :=
  .next (execHead .writeCondition writeCondition s)

/-- WRITE_TRIGGER (R60). -/
def execWriteTrigger (s : State) : Host.Outcome State Fault Refusal := .next (execHead .writeTrigger writeTrigger s)

/-- WRITE_UNIT (R74). -/
def execWriteUnit (s : State) : Host.Outcome State Fault Refusal := .next (execHead .writeUnit writeUnit s)

end Sys2Proof.Machine
end

