-- ==== Sys2Proof/Machine/Timer.lean ====
section
/-! DEFINITION. The RESET line, the Epoch Timer's requests and the expiry of the period timer (chapter 1, R129). -/

namespace Sys2Proof.Machine

/-- COLD_RESET: every block takes its cold-reset values (section 0.7); the commands still waiting are the
environment's and stay. -/
def coldReset (s : State) : State := State.reset.setPending s.pending

/-- EPOCH-START taken while STOPPED: RUNNING, the last closed epoch absent, an epoch opened, and the period timer
loaded and started (R2). -/
def startTimer (s : State) : State :=
  let s := openNext (s.setTimer { s.timer with state := .running, lastClosed := none })
  s.setTimer { s.timer with periodTimer := some s.mgmt.control.period }

/-- The EPOCH-START request (R2). -/
def epochStart (_q : Request) (s : State) : State :=
  match s.timer.state with
  | .running => refuse .wrongState s
  | .stopped => finishHead .ok .nothing (startTimer s)

/-- EPOCH-STOP taken while RUNNING: the period timer stops, an open epoch closes with cause STOP, the state is STOPPED
(R4), and then a pending commit is swapped (R129). -/
def stopTimer (s : State) : State :=
  let s := closeEpoch .stop (s.setTimer { s.timer with periodTimer := none })
  let s := s.setTimer { s.timer with state := .stopped }
  swapPending s.conditions.nextWalk s

/-- The EPOCH-STOP request (R4, R129). -/
def epochStop (_q : Request) (s : State) : State :=
  match s.timer.state with
  | .stopped => refuse .wrongState s
  | .running => finishHead .ok .nothing (stopTimer s)

/-- The expiry of the period timer: an open epoch closes STROBE, the next opens, the timer restarts (R3). It runs only
while the timer is RUNNING, so otherwise there is no expiry to take (log entry 1). -/
def periodExpiry (s : State) : State :=
  match s.timer.periodTimer with
  | none => s
  | some _ =>
    let s := openNext (closeEpoch .strobe s)
    s.setTimer { s.timer with periodTimer := some s.mgmt.control.period }

/-- COLD_RESET (R1, section 0.7). -/
def execColdReset (s : State) : Host.Outcome State Fault Refusal := .next (coldReset s)

/-- EPOCH_START (R2). -/
def execEpochStart (s : State) : Host.Outcome State Fault Refusal := .next (execHead .epochStart epochStart s)

/-- EPOCH_STOP (R4, R129). -/
def execEpochStop (s : State) : Host.Outcome State Fault Refusal := .next (execHead .epochStop epochStop s)

/-- PERIOD_EXPIRY (R3). -/
def execPeriodExpiry (s : State) : Host.Outcome State Fault Refusal := .next (periodExpiry s)

end Sys2Proof.Machine
end

