-- ==== Sys2Proof/Machine/Dispatch.lean ====
section
/-! DEFINITION. One arm per command, each one direct call of its meaning. -/

namespace Sys2Proof.Machine

/-- The effect of a command on everything but the queue of commands. -/
def exec (i : Instr) (s : State) : Host.Outcome State Fault Refusal :=
  match i with
  | .coldReset => Sys2Proof.Machine.execColdReset s
  | .epochStart => Sys2Proof.Machine.execEpochStart s
  | .epochStop => Sys2Proof.Machine.execEpochStop s
  | .periodExpiry => Sys2Proof.Machine.execPeriodExpiry s
  | .laneWord lane tag slot raw => Sys2Proof.Machine.execLaneWord lane tag slot raw s
  | .alignmentMark lane => Sys2Proof.Machine.execAlignmentMark lane s
  | .badSymbol lane => Sys2Proof.Machine.execBadSymbol lane s
  | .laneLossOfSignal lane => Sys2Proof.Machine.execLaneLossOfSignal lane s
  | .walk => Sys2Proof.Machine.execWalk s
  | .fireRequest => Sys2Proof.Machine.execFireRequest s
  | .fireAnswer => Sys2Proof.Machine.execFireAnswer s
  | .captureRecordTake => Sys2Proof.Machine.execCaptureRecordTake s
  | .streamRecordTake => Sys2Proof.Machine.execStreamRecordTake s
  | .decimationReload => Sys2Proof.Machine.execDecimationReload s
  | .streamFrameCompletion => Sys2Proof.Machine.execStreamFrameCompletion s
  | .drainStart => Sys2Proof.Machine.execDrainStart s
  | .captureFrameCompletion => Sys2Proof.Machine.execCaptureFrameCompletion s
  | .alertRaise source => Sys2Proof.Machine.execAlertRaise source s
  | .alertFrameCompletion => Sys2Proof.Machine.execAlertFrameCompletion s
  | .reAnnounceTimerExpiry => Sys2Proof.Machine.execReAnnounceTimerExpiry s
  | .signalDetected => Sys2Proof.Machine.execSignalDetected s
  | .linkLossOfSignal => Sys2Proof.Machine.execLinkLossOfSignal s
  | .trainFrame => Sys2Proof.Machine.execTrainFrame s
  | .requestFrame tag body => Sys2Proof.Machine.execRequestFrame tag body s
  | .creditFrame count => Sys2Proof.Machine.execCreditFrame count s
  | .badFrame => Sys2Proof.Machine.execBadFrame s
  | .transmissionCompletion sourceFirst => Sys2Proof.Machine.execTransmissionCompletion sourceFirst s
  | .requestArrival => Sys2Proof.Machine.execRequestArrival s
  | .replyCompletion => Sys2Proof.Machine.execReplyCompletion s
  | .linkLossManagement => Sys2Proof.Machine.execLinkLossManagement s
  | .linkLossDelivery => Sys2Proof.Machine.execLinkLossDelivery s
  | .linkLossStream => Sys2Proof.Machine.execLinkLossStream s
  | .linkLossAlert => Sys2Proof.Machine.execLinkLossAlert s
  | .read => Sys2Proof.Machine.execRead s
  | .readChannelRuntime => Sys2Proof.Machine.execReadChannelRuntime s
  | .write => Sys2Proof.Machine.execWrite s
  | .writeControl => Sys2Proof.Machine.execWriteControl s
  | .writeChannel => Sys2Proof.Machine.execWriteChannel s
  | .writeLevel => Sys2Proof.Machine.execWriteLevel s
  | .writeCondition => Sys2Proof.Machine.execWriteCondition s
  | .writeTrigger => Sys2Proof.Machine.execWriteTrigger s
  | .writeUnit => Sys2Proof.Machine.execWriteUnit s
  | .commit => Sys2Proof.Machine.execCommit s
  | .discardEdits => Sys2Proof.Machine.execDiscardEdits s
  | .arm => Sys2Proof.Machine.execArm s
  | .abort => Sys2Proof.Machine.execAbort s
  | .release => Sys2Proof.Machine.execRelease s
  | .replay => Sys2Proof.Machine.execReplay s
  | .fire => Sys2Proof.Machine.execFire s
  | .alertAck => Sys2Proof.Machine.execAlertAck s
  | .status => Sys2Proof.Machine.execStatus s
  | .unknownKind => Sys2Proof.Machine.execUnknownKind s
  | .reset => Sys2Proof.Machine.execReset s
  | .softResetDone => Sys2Proof.Machine.execSoftResetDone s
  | .softResetEpochTimer => Sys2Proof.Machine.execSoftResetEpochTimer s
  | .softResetChannelProcessor => Sys2Proof.Machine.execSoftResetChannelProcessor s
  | .softResetConditionEngine => Sys2Proof.Machine.execSoftResetConditionEngine s
  | .softResetCaptureController => Sys2Proof.Machine.execSoftResetCaptureController s
  | .softResetDeliveryEngine => Sys2Proof.Machine.execSoftResetDeliveryEngine s
  | .softResetStreamForwarder => Sys2Proof.Machine.execSoftResetStreamForwarder s
  | .softResetAlertUnit => Sys2Proof.Machine.execSoftResetAlertUnit s

end Sys2Proof.Machine
end

