-- ==== Sys2Proof/Machine/Frames.lean ====
section
/-! DEFINITION. The bytes of the frames the part sends (R171, R173, R174). -/

namespace Sys2Proof.Machine

/-- The status codes (R173). -/
def Status.code : Status → Byte
  | .ok => 0x00 | .busy => 0x01 | .badIndex => 0x02 | .badValue => 0x03 | .badTable => 0x04 | .readOnly => 0x05
  | .overlap => 0x06 | .wrongState => 0x07 | .stale => 0x08 | .unknownKind => 0x09

/-- The answer codes of a FIRE reply, NONE among them (R173). -/
def answerCode : Option Answer → Byte
  | none => 0x00
  | some .started => 0x01
  | some .truncated => 0x02
  | some .retriggered => 0x03
  | some .missed => 0x04

def TimerState.code : TimerState → Byte
  | .stopped => 0x00 | .running => 0x01

def CommitState.code : CommitState → Byte
  | .none => 0x00 | .pending => 0x01

def AlertState.code : AlertState → Byte
  | .quiet => 0x00 | .outstanding => 0x01

def BankName.code : BankName → Byte
  | .edit => 0x00 | .live => 0x01

def EndOutcome.code : EndOutcome → Byte
  | .complete => 0x00 | .aborted => 0x01

/-- The frame kind code of a capture frame (Table 12-2). -/
def CaptureFrame.kindCode : CaptureFrame → Byte
  | .header _ _ _ => 0x84 | .segment _ _ _ _ => 0x85 | .finish _ _ _ _ => 0x86

/-- The 24 bytes of a STATUS content (Table 12-6). The link state is UP in every reply, and its byte 02h (R167). -/
def StatusSummary.bytes (t : StatusSummary) : List Byte :=
  [t.timer.code, flag 0 t.lastClosed.isSome ||| flag 1 t.outstanding.isSome] ++
    optional32 t.lastClosed ++
    [t.units[0].code, t.units[1].code, t.units[2].code, t.units[3].code, byteOf t.drainQueue.length] ++
    ((t.drainQueue.map fun u => byteOf u.val) ++ List.replicate 4 (0 : Byte)).take 4 ++
    [t.commit.code] ++ bytes16 t.generation ++
    [0x02, byteOf t.credit, t.alert.code, t.alertSequence, t.outstanding.getD 0, byteOf t.otherUnanswered]

/-- The content of a reply from byte 2 of its body on (R173). -/
def ReplyContent.bytes : ReplyContent → List Byte
  | .nothing => []
  | .read table index bank entry =>
    [table.code, index, bank.code, 0] ++ entry.bytes
  | .wrote table index => [table.code, index]
  | .commit g epoch => bytes16 g ++ bytes32 epoch
  | .generation g => bytes16 g
  | .unit u => [byteOf u]
  | .fire t answer epoch => [byteOf t, answerCode answer] ++ bytes32 epoch
  | .acknowledged sequence => [sequence]
  | .status t => t.bytes
  | .voids n => [byteOf n]

/-- One slot of a segment (R174): epoch, flags, reserved, presence, then the mask channels' values. -/
def Slot.bytes (t : Slot) : List Byte :=
  bytes32 t.epoch ++ [flag 0 t.mark, 0] ++
    bytes16 (BitVec.ofFnLE fun c => t.values.any fun v => v.1 = c && v.2.isSome) ++
    t.values.flatMap fun v => optional16 v.2

/-- The body of a capture frame (R174). -/
def CaptureFrame.body : CaptureFrame → List Byte
  | .header record attempt mode => record.bytes ++ [byteOf attempt, mode.code]
  | .segment number unit index slots =>
    bytes16 number ++ countBytes index ++ [byteOf unit, byteOf slots.length] ++ slots.flatMap Slot.bytes
  | .finish number unit segments outcome =>
    bytes16 number ++ [byteOf unit, outcome.code] ++ countBytes segments

/-- The set of channels a stream frame includes. -/
def StreamFrame.channels (f : StreamFrame) : ChannelSet := BitVec.ofFnLE fun c => f.values.any fun v => v.1 = c

/-- The body of a stream frame (R174). -/
def StreamFrame.body (f : StreamFrame) : List Byte :=
  bytes32 f.epoch ++ bytes16 f.sequence ++ countBytes f.gapCount ++ bytes16 f.channels ++
    bytes16 (BitVec.ofFnLE fun c => f.values.any fun v => v.1 = c && v.2.isSome) ++
    f.values.flatMap fun v => optional16 v.2

/-- The kind code, header byte 1 and body of an upstream frame (Tables 12-1 and 12-2). -/
def UpFrame.parts : UpFrame → Byte × Byte × List Byte
  | .train run => (0x81, byteOf run, [0, 0, 0, 0])
  | .reply r => (0x82, r.tag, [r.kind, r.status.code] ++ r.content.bytes)
  | .alert a => (0x83, a.sequence, [byteOf a.repeatCount, a.sources.setWidth 8])
  | .capture c => (c.kindCode, 0, c.body)
  | .stream f => (0x87, 0, f.body)

/-- The bytes of an upstream frame: header, body, check (Table 12-1, R171). -/
def UpFrame.bytes (f : UpFrame) : List Byte :=
  let p := f.parts
  let checked := [p.1, p.2.1] ++ countBytes p.2.2.length ++ p.2.2
  checked ++ bytes16 (frameCheck checked)

end Sys2Proof.Machine
end

