-- ==== Sys2Proof/Safety.lean ====
section
/-! DEFINITION. What a sound state is, block by block: the statements the manual makes about the part between two
events, in the words of its rules. A safe run is a run whose states are sound; no command faults or is refused.
First come two words the claims about requests use. -/

namespace Sys2Proof.Machine

/-! ### Requests in execution (R159, R161): the vocabulary of the claims -/

/-- Nothing is in execution, and the request at the head of the queue is `q`, one that this row of the table
executes. -/
abbrev Executes (row : RequestRow) (q : Request) (rest : List Request) (s : State) : Prop :=
  s.mgmt.exec = .idle ∧ s.mgmt.requests = q :: rest ∧ q.row = row

/-- The head request has left the queue, and its reply, with its tag and kind, stands at the tail of the reply
queue. -/
def replied (q : Request) (rest : List Request) (status : Status) (content : ReplyContent) (s : State) : State :=
  { s with mgmt := { s.mgmt with
      requests := rest
      exec := .idle
      replies := s.mgmt.replies ++ [{ tag := q.tag, kind := q.kind, status := status, content := content }] } }

/-! ### Requests and replies (R159, R163) -/

/-- R163: U counts each unanswered request in exactly one of four places and never exceeds 8; a deferred reply is held
only for a pending commit (R124, R130), and a request in execution stays at the head of the queue (R159). -/
def RequestsSound (s : State) : Prop :=
  s.mgmt.unanswered = s.mgmt.requests.length + s.mgmt.replies.length + s.mgmt.inTransmission.length
    + s.mgmt.deferred.toList.length ∧
  s.mgmt.unanswered ≤ Config.unansweredMax ∧
  (s.mgmt.deferred ≠ none → s.conditions.commit = .pending) ∧
  (s.mgmt.exec ≠ .idle → s.mgmt.requests ≠ [])

/-! ### The link (R144 to R151) -/

/-- The source an upstream frame belongs to (Table 10-3, R147). -/
def UpFrame.source : UpFrame → Source
  | .train _ => .training | .reply _ => .reply | .alert _ => .alert | .capture _ => .delivery | .stream _ => .stream

/-- R144 to R151: the credit stays within 0..255; DOWN leaves runs, credit and transmitter at zero; in TRAINING a TRAIN
frame is always under way; the frame in transmission is of the source recorded with it. -/
def LinkController.Sound (l : LinkController) : Prop :=
  l.credit ≤ Config.creditMax ∧
  (l.state = .down → l.trainRun = 0 ∧ l.badRun = 0 ∧ l.credit = 0 ∧ l.tx = none) ∧
  (l.state = .training → l.trainRun < Config.trainsToUp ∧ l.badRun = 0 ∧ l.credit = 0 ∧
    ∃ t, l.tx = some t ∧ t.source = .training) ∧
  (l.state = .up → l.trainRun = 0 ∧ l.badRun < Config.badToDown) ∧
  (∀ t, l.tx = some t → t.frame.source = t.source)

/-! ### Alerts (R135 to R142) -/

/-- R135, R137, R139: nothing is reported or outstanding in QUIET; the timer runs only while OUTSTANDING and with no
offer; a NEW alert belongs to QUIET, and while it is in transmission what it carries is still pending; an enabled
pending source in QUIET is never left without an offer, and a NEW alert OFFERED has something to carry. -/
def AlertUnit.Sound (enable : AlertSet) (a : AlertUnit) : Prop :=
  (a.state = .quiet ↔ a.outstanding = none) ∧
  (a.state = .quiet → a.reported = 0 ∧ a.timerRunning = false ∧ a.repeatCount = 0) ∧
  (a.timerRunning = true → a.offer = .none) ∧
  (∀ m, a.offer = .newAlert m → a.state = .quiet) ∧
  (a.offer = .repeatAlert .offered → a.state = .outstanding) ∧
  (a.offer = .newAlert .inTransmission → a.reRaised &&& ~~~ a.sent = 0 ∧ a.sent &&& ~~~ a.pending = 0) ∧
  (a.offer ≠ .newAlert .inTransmission → a.sent = 0 ∧ a.reRaised = 0) ∧
  (a.state = .quiet → a.offer = .none → a.pending &&& enable = 0) ∧
  (a.offer = .newAlert .offered → a.pending &&& enable ≠ 0)

/-! ### The stream (R114, R118, R120) -/

/-- Consecutive sequence numbers, the last of them just before `next`. -/
def consecutive (next : BitVec 16) : List StreamFrame → Prop
  | [] => True
  | f :: rest => f.sequence + BitVec.ofNat 16 (rest.length + 1) = next ∧ consecutive next rest

/-- R114, R118: at most 16 frames, with consecutive sequence numbers up to the next; a head in transmission is there. -/
def StreamForwarder.Sound (f : StreamForwarder) : Prop :=
  f.queue.length ≤ Config.streamQueueMax ∧ consecutive f.sequence f.queue ∧
  (f.headMark = .inTransmission → f.queue ≠ []) ∧ f.gapCount ≤ Config.count16Max

/-! ### Epochs and lanes (R1, R6, R7, R9, R23) -/

/-- R9 to R12: the runs of a lane in each state, and the counts. -/
def Lane.Sound (l : Lane) : Prop :=
  l.goodRun < Config.marksToLock ∧ l.badRun < Config.badToUnlock ∧
  (l.state ≠ .seeking → l.goodRun = 0) ∧ (l.state ≠ .locked → l.badRun = 0) ∧
  l.wordsTaken ≤ Config.count16Max ∧ l.lateWords ≤ Config.count16Max

/-- R1, R3, R6, R7, R9, R10, R23, R124: the period timer runs exactly while the timer is RUNNING, an epoch is open only
then, and an open epoch is never complete; with no epoch open the participating set, the received-slot sets and the open
values are empty; only LOCKED lanes participate, and a lane is OFF exactly when it is not enabled; a commit is pending
only while the timer is RUNNING, or until the Condition Engine takes a soft reset the timer has taken (log entry
16). -/
def EpochsSound (s : State) : Prop :=
  (s.timer.periodTimer.isSome ↔ s.timer.state = .running) ∧
  (s.timer.openEpoch.isSome → s.timer.state = .running) ∧
  (s.timer.openEpoch.isSome → missingWord s = true) ∧
  (s.timer.openEpoch = none → s.timer.participating = 0 ∧ (∀ l : Fin 4, s.lanes[l.val].received = 0) ∧
    ∀ c : Fin 16, s.channels.openValues[c.val] = none) ∧
  (∀ l : Fin 4, has s.timer.participating l = true → s.lanes[l.val].state = .locked) ∧
  (∀ l : Fin 4, s.lanes[l.val].Sound) ∧
  (∀ l : Fin 4, s.lanes[l.val].state = .off ↔ has s.mgmt.control.lanes l = false) ∧
  (s.conditions.commit = .pending → s.timer.state = .running ∨ s.conditions.resetsTaken < s.timer.resetsTaken)

/-! ### Capture units and delivery (R76, R98, R113) -/

/-- R76, R91: the capture record a unit holds in each state, settled exactly once it is frozen. -/
def UnitRuntime.Sound (u : UnitRuntime) : Prop :=
  match u.state with
  | .idle => u = UnitRuntime.cleared
  | .filling | .armed => u.startEpoch ≠ none ∧ u.record = none ∧ u.attempt = none
  | .post => ∃ r, u.record = some r ∧ r.settled = none ∧ u.attempt = none
  | .held | .draining | .delivered => ∃ r, u.record = some r ∧ r.settled ≠ none

/-- R98, R113: the drain queue holds exactly the HELD units, each once, and the draining unit is the one the Delivery
Engine works on. Between the two blocks' taking of a soft reset, the one that took it holds nothing. -/
def CaptureSound (s : State) : Prop :=
  (∀ u : Fin 4, s.capture.units[u.val].Sound) ∧
  s.capture.drainQueue.Nodup ∧
  (∀ u : Fin 4, u ∈ s.capture.drainQueue ↔ s.capture.units[u.val].state = .held) ∧
  (∀ u v : Fin 4, s.capture.units[u.val].state = .draining → s.capture.units[v.val].state = .draining → u = v) ∧
  (s.delivery.resetsTaken = s.capture.resetsTaken →
    ∀ u : Fin 4, s.capture.units[u.val].state = .draining ↔ s.delivery.drain.map (·.unit) = some u) ∧
  (s.delivery.resetsTaken < s.capture.resetsTaken → ∀ u : Fin 4, s.capture.units[u.val].state ≠ .draining) ∧
  (s.capture.resetsTaken < s.delivery.resetsTaken → s.delivery.drain = none)

/-- R80: the regions of two units outside IDLE have no block in common. -/
def RegionsDisjoint (s : State) : Prop :=
  ∀ u v : Fin 4, u ≠ v → s.capture.units[u.val].state ≠ .idle → s.capture.units[v.val].state ≠ .idle →
    s.capture.configs[u.val].overlaps s.capture.configs[v.val] = false

/-! ### The whole part -/

/-- Every block is sound. -/
def Sound (s : State) : Prop :=
  RequestsSound s ∧ s.link.Sound ∧ s.alerts.Sound s.mgmt.control.alerts ∧ s.stream.Sound ∧ EpochsSound s ∧ CaptureSound s

end Sys2Proof.Machine
end

