-- ==== Sys2Proof/Certificates/Slice0/Obligations.lean ====
section
/-! DEFINITION. The statements for the provers. Each docstring names the rules of spec/ it rests on. Every statement about a
command says that `exec` answers a next state and gives that state whole, as an update of the state before: what the
update does not name is unchanged. -/

open Sys2Proof Sys2Proof.Machine

/-! ### The queue of commands and reset -/

/-- One step runs the command at the front of the queue on the state with the rest of the queue. On an empty queue
the part idles, which is the model's choice (log entry 10). -/
def Obligations.StepRunsFrontCommand : Prop :=
  ∀ s : State,
    (∀ c rest, s.pending = c :: rest → step s = exec c { s with pending := rest }) ∧
    (s.pending = [] → step s = .next s)

/-- No command is refused or faults, and none touches the queue of commands. That a command whose event cannot occur is
a next state too is the model's choice (log entry 1), and so is the queue, which COLD_RESET keeps (log entry 10). -/
def Obligations.EveryCommandCompletes : Prop :=
  ∀ (c : Instr) (s : State), ∃ t, exec c s = .next t ∧ t.pending = s.pending

/-- The model's choice (log entry 1), no rule of the manual: a command whose event cannot occur in the state, since
nothing waits to be taken, no request of its row stands at the head, or its timer is stopped, leaves the state
unchanged. For DRAIN_START that is also a link loss the Delivery Engine has still to take (log entry 9), and the two
blocks out of step over a soft reset (log entry 2). -/
def Obligations.EventsThatCannotOccur : Prop :=
  ∀ s : State,
    (∀ p ∈ [(Instr.epochStart, RequestRow.epochStart), (.epochStop, .epochStop), (.read, .read),
        (.readChannelRuntime, .readChannelRuntime), (.write, .write), (.writeControl, .writeControl),
        (.writeChannel, .writeChannel), (.writeLevel, .writeLevel), (.writeCondition, .writeCondition),
        (.writeTrigger, .writeTrigger), (.writeUnit, .writeUnit), (.commit, .commit),
        (.discardEdits, .discardEdits), (.arm, .arm), (.abort, .abort), (.release, .release), (.replay, .replay),
        (.fire, .fire), (.alertAck, .alertAck), (.status, .status), (.unknownKind, .unknownKind), (.reset, .reset)],
      (∀ q rest, ¬Executes p.2 q rest s) → exec p.1 s = .next s) ∧
    (s.timer.periodTimer = none → exec .periodExpiry s = .next s) ∧
    ((∀ o rest, s.conditions.records = o :: rest → o.run ≠ s.conditions.resetsTaken) → exec .walk s = .next s) ∧
    ((∀ o rest, s.capture.records = o :: rest → o.run ≠ s.capture.resetsTaken) →
      exec .captureRecordTake s = .next s) ∧
    ((∀ o rest, s.stream.records = o :: rest → o.run ≠ s.stream.resetsTaken) → exec .streamRecordTake s = .next s) ∧
    (s.capture.fires = [] → exec .fireRequest s = .next s) ∧
    (s.conditions.answers = [] → exec .fireAnswer s = .next s) ∧
    (s.stream.reloads = [] → exec .decimationReload s = .next s) ∧
    (s.delivery.drain ≠ none ∨ s.link.state ≠ .up ∨ s.capture.drainQueue = [] ∨
        LinkReport.linkLoss ∈ s.delivery.inbox ∨ s.delivery.resetsTaken ≠ s.capture.resetsTaken →
      exec .drainStart s = .next s) ∧
    ((∀ v rest, s.delivery.inbox ≠ .completion v :: rest) → exec .captureFrameCompletion s = .next s) ∧
    ((∀ v rest, s.stream.inbox ≠ .completion v :: rest) → exec .streamFrameCompletion s = .next s) ∧
    (∀ a, a ∉ s.alerts.raises → exec (.alertRaise a) s = .next s) ∧
    (s.alerts.timerRunning = false → exec .reAnnounceTimerExpiry s = .next s) ∧
    (s.link.tx = none → ∀ b, exec (.transmissionCompletion b) s = .next s) ∧
    ((∀ r rest, s.mgmt.inbox ≠ .request r :: rest) → exec .requestArrival s = .next s) ∧
    ((∀ v rest, s.mgmt.inbox ≠ .completion v :: rest) → exec .replyCompletion s = .next s) ∧
    ((∀ rest, s.mgmt.inbox ≠ .linkLoss :: rest) → exec .linkLossManagement s = .next s) ∧
    ((∀ rest, s.delivery.inbox ≠ .linkLoss :: rest) → exec .linkLossDelivery s = .next s) ∧
    ((∀ rest, s.stream.inbox ≠ .linkLoss :: rest) → exec .linkLossStream s = .next s) ∧
    ((∀ rest, s.alerts.inbox ≠ .linkLoss :: rest) → exec .linkLossAlert s = .next s) ∧
    ((∀ v rest, s.alerts.inbox ≠ .completion v :: rest) → exec .alertFrameCompletion s = .next s) ∧
    ((∀ n, s.mgmt.exec ≠ .awaitReset n) → exec .softResetDone s = .next s) ∧
    (s.mgmt.resetsIssued ≤ s.timer.resetsTaken → exec .softResetEpochTimer s = .next s) ∧
    (s.mgmt.resetsIssued ≤ s.channels.resetsTaken → exec .softResetChannelProcessor s = .next s) ∧
    (s.mgmt.resetsIssued ≤ s.conditions.resetsTaken → exec .softResetConditionEngine s = .next s) ∧
    (s.mgmt.resetsIssued ≤ s.capture.resetsTaken → exec .softResetCaptureController s = .next s) ∧
    (s.mgmt.resetsIssued ≤ s.delivery.resetsTaken → exec .softResetDeliveryEngine s = .next s) ∧
    (s.mgmt.resetsIssued ≤ s.stream.resetsTaken → exec .softResetStreamForwarder s = .next s) ∧
    (s.mgmt.resetsIssued ≤ s.alerts.resetsTaken → exec .softResetAlertUnit s = .next s)

/-- The cold-reset columns of Tables 1-1, 2-1, 2-5, 3-2, 4-2, 4-3, 5-2, 5-3, 7-1, 8-1, 8-2, 9-2, 10-1, 11-1 and 11-5:
the state after reset, and the state COLD_RESET leaves. The strobe tag, the head mark, and the fields
`resetsTaken`, `resetsIssued` and `nextWaiter` hold the model's values (log entries 2 and 4). -/
def Obligations.ColdResetValues : Prop :=
  let entry : ChannelEntry :=
    { enabled := false, lane := 0, slot := 0, coding := .bipolar, offset := 0, invert := false, level := 0,
      hysteresis := 0, direction := .rising, forward := false, divisor := 1 }
  let runtime : ChannelRuntime :=
    { previous := none, crossing := .unknown, cycleCount := 0, lastCrossing := none, lastPeriod := none,
      peakMax := none, peakMin := none }
  let condition : ConditionEntry :=
    { inUse := false, test := .above, channel := 0, levelA := 0, levelB := 0, onTrue := .endWalk, onFalse := .endWalk }
  let bank : Bank :=
    { levels := Vector.replicate 32 0, list := Vector.replicate 64 condition,
      triggers := Vector.replicate 8 { target := none, holdOff := 0 } }
  let config : UnitConfig :=
    { inUse := false, firstBlock := 0, blockCount := 0, mask := 0, pre := 0, postMode := .epochs, postLength := 0,
      guard := 0, reference := 0, retrigger := .ignore, handOff := .auto, afterRelease := .oneShot }
  let unit : UnitRuntime :=
    { state := .idle, startEpoch := none, ring := [], record := none, postEnd := none, countFrom := none,
      crossings := 0, attempt := none }
  let cold (waiting : List Instr) : State :=
    { timer := { state := .stopped, nextEpoch := 0, openEpoch := none, participating := 0, lastClosed := none,
                 periodTimer := none, strobe := none, resetsTaken := 0 }
      lanes := Vector.replicate 4
        { state := .off, goodRun := 0, badRun := 0, received := 0, wordsTaken := 0, lateWords := 0 }
      channels := { table := Vector.replicate 16 entry, openValues := Vector.replicate 16 none,
                    runtime := Vector.replicate 16 runtime, resetsTaken := 0 }
      conditions := { edit := bank, live := bank,
                      triggers := Vector.replicate 8
                        { remaining := 0, fires := 0, suppressed := 0, missed := 0, lastFire := none }
                      commit := .none, generation := 0, nextWalk := 0, records := [], answers := [], resetsTaken := 0 }
      capture := { configs := Vector.replicate 4 config, units := Vector.replicate 4 unit, number := 0,
                   nextRecord := 0, drainQueue := [], records := [], fires := [], resetsTaken := 0 }
      delivery := { drain := none, inbox := [], resetsTaken := 0 }
      stream := { counters := Vector.replicate 16 1
                  queue := [], headMark := .offered, sequence := 0, gapCount := 0, records := [], reloads := [],
                  inbox := [], resetsTaken := 0 }
      alerts := { pending := 0, reported := 0, state := .quiet, sequence := 0, outstanding := none, repeatCount := 0,
                  timerRunning := false, offer := .none, sent := 0, reRaised := 0, raises := [], inbox := [],
                  resetsTaken := 0 }
      link := { state := .down, trainRun := 0, badRun := 0, credit := 0, tx := none }
      mgmt := { requests := [], exec := .idle, replies := [], inTransmission := [], deferred := none,
                unanswered := 0
                control := { period := 1000, lanes := 0, alerts := 127, streamEnable := false }
                inbox := [], resetsIssued := 0, nextWaiter := 0 }
      pending := waiting }
  State.reset = cold [] ∧ ∀ s : State, exec .coldReset s = .next (cold s.pending)

/-! ### Epochs (chapter 1) -/

/-- R1, R5, R6, R7, R26, R34, R35: a word is missing when a participating lane has not received a slot that some
enabled channel takes from it; the opening of an epoch, with its number, participating set and strobe tag; the
completeness test; and everything the close of the open epoch does, and, with no epoch open, nothing. The run the
record is tagged with, and the counts of soft resets by which it is built and offered, are log entry 2 (the model's
choice). -/
def Obligations.OpeningAndCloseOfAnEpoch : Prop :=
  (∀ s : State, missingWord s = true ↔
     ∃ (l : Fin 4) (k : Fin 8), has s.timer.participating l = true ∧ has s.lanes[l].received k = false ∧
       ∃ c : Fin 16, s.channels.table[c].enabled = true ∧ s.channels.table[c].lane = l ∧
         s.channels.table[c].slot = k) ∧
  (∀ s : State,
     (completenessTest s = if s.timer.openEpoch ≠ none ∧ missingWord s = false then closeEpoch .complete s else s) ∧
     ∃ locked : LaneSet, (∀ l : Fin 4, has locked l = true ↔ s.lanes[l].state = .locked) ∧
       openNext s = completenessTest { s with
         timer := { s.timer with
           nextEpoch := s.timer.nextEpoch + 1
           openEpoch := some s.timer.nextEpoch
           participating := locked
           strobe := some (s.timer.nextEpoch.setWidth 4) } }) ∧
  ∀ (s : State) (cause : CloseCause),
    (s.timer.openEpoch = none → closeEpoch cause s = s) ∧
    ∀ n : Epoch, s.timer.openEpoch = some n →
      let settled (c : Fin 16) := settleChannel n s.channels.table[c] s.channels.openValues[c] s.channels.runtime[c]
      let record : Offered :=
        { run := s.timer.resetsTaken, record := { epoch := n, fields := Vector.ofFn fun c => (settled c).1 } }
      let built := s.channels.resetsTaken ≤ s.timer.resetsTaken
      let offered (taken : Nat) := if built ∧ taken ≤ s.timer.resetsTaken then [record] else []
      closeEpoch cause s = { s with
        timer := { s.timer with openEpoch := none, lastClosed := some n, participating := 0 }
        channels := { s.channels with
          openValues := Vector.replicate 16 none
          runtime := if built then Vector.ofFn fun c => (settled c).2 else s.channels.runtime }
        lanes := Vector.ofFn fun l => { s.lanes[l] with received := 0 }
        conditions := { s.conditions with records := s.conditions.records ++ offered s.conditions.resetsTaken }
        capture := { s.capture with records := s.capture.records ++ offered s.capture.resetsTaken }
        stream := { s.stream with records := s.stream.records ++ offered s.stream.resetsTaken }
        alerts := { s.alerts with
          raises := s.alerts.raises ++ if cause ≠ .complete ∧ missingWord s = true then [.sampleMissing] else [] } }

/-- R2, R3, R4, R129: EPOCH-START while STOPPED starts the run; EPOCH-STOP while RUNNING stops the timer, closes an
open epoch and swaps a pending commit, in that order; each is refused in the other state. The expiry of the running
period timer closes an open epoch STROBE, opens the next and restarts the timer. -/
def Obligations.StartStopAndStrobe : Prop :=
  (∀ (s : State) (q : Request) (rest : List Request), Executes .epochStart q rest s →
     (s.timer.state = .running → exec .epochStart s = .next (arbitrate (replied q rest .wrongState .nothing s))) ∧
     (s.timer.state = .stopped →
       let o := openNext { s with timer := { s.timer with state := .running, lastClosed := none } }
       exec .epochStart s = .next (arbitrate (replied q rest .ok .nothing
         { o with timer := { o.timer with periodTimer := some s.mgmt.control.period } })))) ∧
  (∀ (s : State) (q : Request) (rest : List Request), Executes .epochStop q rest s →
     (s.timer.state = .stopped → exec .epochStop s = .next (arbitrate (replied q rest .wrongState .nothing s))) ∧
     (s.timer.state = .running →
       let c := closeEpoch .stop { s with timer := { s.timer with periodTimer := none } }
       let u := swapPending c.conditions.nextWalk { c with timer := { c.timer with state := .stopped } }
       exec .epochStop s = .next (arbitrate
         { u with mgmt := { u.mgmt with
           requests := rest
           exec := .idle
           replies := u.mgmt.replies ++ [{ tag := q.tag, kind := q.kind, status := .ok, content := .nothing }] } }))) ∧
  ∀ (s : State) (p : BitVec 16), s.timer.periodTimer = some p →
    let o := openNext (closeEpoch .strobe s)
    exec .periodExpiry s = .next { o with timer := { o.timer with periodTimer := some s.mgmt.control.period } }

/-- R127, R130: the swap of a pending commit at a walk or an EPOCH-STOP, with the deferred reply released; with no
commit pending, nothing. -/
def Obligations.SwapOfAPendingCommit : Prop :=
  ∀ (s : State) (fromEpoch : Epoch),
    (s.conditions.commit = .none → swapPending fromEpoch s = s) ∧
    (s.conditions.commit = .pending → swapPending fromEpoch s = { s with
      conditions := { s.conditions with
        live := s.conditions.edit
        generation := s.conditions.generation + 1
        triggers := Vector.ofFn fun t => { s.conditions.triggers[t] with remaining := 0 }
        commit := .none }
      mgmt := { s.mgmt with
        deferred := none
        replies := s.mgmt.replies ++ (s.mgmt.deferred.toList.map fun tag =>
          { tag := tag, kind := 0x03#8, status := .ok
            content := .commit (s.conditions.generation + 1) fromEpoch }) } })

/-! ### Lanes (chapter 1) -/

/-- R11, R12, R15, R16, R17, R23: a lane word that is not accepted (the lane off or seeking, the word late, outside
the expected set, or a duplicate), and one that is: its raw value goes to every enabled channel of the lane and slot,
the slot is received, the word counted, and the completeness test applied. -/
def Obligations.LaneWordJudged : Prop :=
  (∀ (s : State) (l : Fin 4) (tag : BitVec 4) (k : Fin 8) (raw : BitVec 16),
     let late := ∀ n, s.timer.openEpoch = some n → tag ≠ n.setWidth 4
     let expected := ∃ c : Fin 16, s.channels.table[c].enabled = true ∧ s.channels.table[c].lane = l ∧
       s.channels.table[c].slot = k
     (s.lanes[l].state ≠ .locked → exec (.laneWord l tag k raw) s = .next s) ∧
     (s.lanes[l].state = .locked → late → exec (.laneWord l tag k raw) s = .next { s with
       lanes := Table.put s.lanes l
         { s.lanes[l] with badRun := 0, lateWords := min 65535 (s.lanes[l].lateWords + 1) }
       alerts := { s.alerts with raises := s.alerts.raises ++ [.sampleLate] } }) ∧
     (s.lanes[l].state = .locked → ¬late → ¬expected → exec (.laneWord l tag k raw) s = .next { s with
       lanes := Table.put s.lanes l { s.lanes[l] with badRun := 0 } }) ∧
     (s.lanes[l].state = .locked → ¬late → expected → has s.lanes[l].received k = true →
       exec (.laneWord l tag k raw) s = .next { s with
         lanes := Table.put s.lanes l { s.lanes[l] with badRun := 0 }
         alerts := { s.alerts with raises := s.alerts.raises ++ [.laneFault] } })) ∧
  ∀ (s : State) (l : Fin 4) (tag : BitVec 4) (k : Fin 8) (raw : BitVec 16) (n : Epoch),
    s.lanes[l].state = .locked → s.timer.openEpoch = some n → tag = n.setWidth 4 →
    (∃ c : Fin 16, s.channels.table[c].enabled = true ∧ s.channels.table[c].lane = l ∧
      s.channels.table[c].slot = k) →
    has s.lanes[l].received k = false →
    exec (.laneWord l tag k raw) s = .next (completenessTest { s with
      channels := { s.channels with
        openValues := Vector.ofFn fun c =>
          if s.channels.table[c].enabled = true ∧ s.channels.table[c].lane = l ∧ s.channels.table[c].slot = k
          then some raw else s.channels.openValues[c] }
      lanes := Table.put s.lanes l { s.lanes[l] with
        badRun := 0
        received := s.lanes[l].received ||| single 8 k
        wordsTaken := min 65535 (s.lanes[l].wordsTaken + 1) } })

/-- R11 to R14, R31: an alignment mark, a bad symbol and a loss of signal, in every state of the lane. A LOCKED lane
is lost at the fourth bad symbol and at a loss of signal: LANE-FAULT, its channels' crossing resets, its removal from
the participating set, and the completeness test. -/
def Obligations.LaneLockGainedAndLost : Prop :=
  ∀ (s : State) (l : Fin 4),
    let lane := s.lanes[l]
    let put (r : Lane) : State := { s with lanes := Table.put s.lanes l r }
    let lost := completenessTest { s with
      alerts := { s.alerts with raises := s.alerts.raises ++ [.laneFault] }
      lanes := Table.put s.lanes l { lane with state := .seeking, goodRun := 0, badRun := 0 }
      channels := { s.channels with
        runtime := Vector.ofFn fun c =>
          if s.channels.table[c].lane = l then { s.channels.runtime[c] with
            crossing := .unknown, previous := none, lastCrossing := none, lastPeriod := none }
          else s.channels.runtime[c] }
      timer := { s.timer with participating := s.timer.participating &&& ~~~ single 4 l } }
    exec (.alignmentMark l) s = .next (match lane.state with
      | .off | .locked => s
      | .seeking => if lane.goodRun + 1 = 8 then put { lane with state := .locked, goodRun := 0, badRun := 0 }
          else put { lane with goodRun := lane.goodRun + 1 }) ∧
    exec (.badSymbol l) s = .next (match lane.state with
      | .off => s
      | .seeking => put { lane with goodRun := 0 }
      | .locked => if lane.badRun + 1 = 4 then lost else put { lane with badRun := lane.badRun + 1 }) ∧
    exec (.laneLossOfSignal l) s = .next (match lane.state with
      | .off => s
      | .seeking => put { lane with goodRun := 0 }
      | .locked => lost)

/-! ### Channels (chapter 2) -/

/-- R24: the coded value of a raw value under each coding, and that each coding yields every value from exactly one
raw value. -/
def Obligations.CodedValue : Prop :=
  (∀ raw : BitVec 16, codedValue .bipolar raw = if raw.toNat < 32768 then (raw.toNat : Int) else raw.toNat - 65536) ∧
  (∀ raw : BitVec 16, codedValue .unipolar raw = (raw.toNat : Int) - 32768) ∧
  ∀ (c : Coding) (x : Int), -32768 ≤ x → x ≤ 32767 →
    ∃ raw, codedValue c raw = x ∧ ∀ other, codedValue c other = x → other = raw

/-- R25: the corrected value: the offset added in exact integers, the sum saturated, then inversion. -/
def Obligations.CorrectedValue : Prop :=
  ∀ (e : ChannelEntry) (raw : BitVec 16),
    let sum := codedValue e.coding raw + e.offset.toInt
    let saturated : Int := if 32767 < sum then 32767 else if sum < -32768 then -32768 else sum
    (correctedValue e raw).toInt =
      if e.invert then (if saturated = -32768 then 32767 else -saturated) else saturated

/-- R26 to R32, Table 2-4: one channel settled in the record of epoch `n`: its fields in the record and its runtime
afterwards. -/
def Obligations.ChannelSettled : Prop :=
  ∀ (n : Epoch) (e : ChannelEntry) (raw : Option (BitVec 16)) (r : ChannelRuntime),
    (e.enabled = false ∨ raw = none →
      settleChannel n e raw r = ({ value := none, crossed := false, delta := none }, { r with previous := none })) ∧
    ∀ x, e.enabled = true → raw = some x →
      let v := correctedValue e x
      let rising : Bool := r.crossing = .below ∧ e.level.toInt + e.hysteresis ≤ v.toInt
      let falling : Bool := r.crossing = .above ∧ v.toInt ≤ e.level.toInt - e.hysteresis
      let above : Bool := (r.crossing = .unknown ∧ e.level.toInt ≤ v.toInt) ∨ (r.crossing = .above ∧ falling = false) ∨
        rising = true
      let counted : Bool := (rising = true ∧ e.direction ≠ .falling) ∨ (falling = true ∧ e.direction ≠ .rising)
      settleChannel n e raw r =
        ({ value := some v, crossed := counted, delta := r.previous.map fun p => v.toInt - p.toInt },
         { previous := some v
           crossing := if above then .above else .below
           cycleCount := if counted then r.cycleCount + 1 else r.cycleCount
           lastCrossing := if counted then some n else r.lastCrossing
           lastPeriod := if counted ∧ r.lastCrossing ≠ none then r.lastCrossing.map fun c => n - c else r.lastPeriod
           peakMax := match r.peakMax with
             | none => some v
             | some p => if p.toInt < v.toInt then some v else some p
           peakMin := match r.peakMin with
             | none => some v
             | some p => if v.toInt < p.toInt then some v else some p })

/-! ### The tables of READ and WRITE (chapters 2, 3, 4, 5, 11 and 12) -/

/-- R9, R19, R33, R39, R60, R61, R73, R76, R164, R165: what a READ of each table answers, CHANNEL-RUNTIME with its
clear option; and that a WRITE of no table, or of a read-only table, is refused. A READ without the clear option
changes nothing but the queues of requests and replies. -/
def Obligations.ReadsAndRefusedWrites : Prop :=
  (∀ (s : State) (q : Request) (rest : List Request), Executes .read q rest s →
     let bank := (q.options.extractLsb' 0 2).toNat
     let ok (table : TableName) (b : BankName) (e : TableEntry) :=
       exec .read s = .next (arbitrate (replied q rest .ok (.read table q.index b e) s))
     let no (status : Status) := exec .read s = .next (arbitrate (replied q rest status .nothing s))
     let banked (n : Nat) (table : TableName) (entry : Bank → Fin n → TableEntry) :=
       (n ≤ q.index.toNat → no .badIndex) ∧
       ∀ i : Fin n, q.index.toNat = i → (bank = 0 → ok table .edit (entry s.conditions.edit i)) ∧
         (bank = 1 → ok table .live (entry s.conditions.live i)) ∧ (2 ≤ bank → no .badValue)
     let plain (n : Nat) (table : TableName) (entry : Fin n → TableEntry) :=
       (n ≤ q.index.toNat → no .badIndex) ∧ ∀ i : Fin n, q.index.toNat = i → ok table .edit (entry i)
     (10 ≤ q.operand.toNat → no .badTable) ∧
     (q.operand = 0x00#8 → plain 1 .control fun _ => .control s.mgmt.control) ∧
     (q.operand = 0x01#8 → plain 16 .channel fun i => .channel s.channels.table[i]) ∧
     (q.operand = 0x03#8 → banked 32 .level fun b i => .level b.levels[i]) ∧
     (q.operand = 0x04#8 → banked 64 .condition fun b i => .condition b.list[i]) ∧
     (q.operand = 0x05#8 → banked 8 .trigger fun b i => .trigger b.triggers[i]) ∧
     (q.operand = 0x06#8 → plain 8 .triggerRuntime fun i => .triggerRuntime s.conditions.triggers[i]) ∧
     (q.operand = 0x07#8 → plain 4 .unit fun i => .unit s.capture.configs[i]) ∧
     (q.operand = 0x08#8 → plain 4 .unitStatus fun i =>
       let u := s.capture.units[i]
       .unitStatus { state := u.state, slotCount := u.ring.length, startEpoch := u.startEpoch,
                     oldest := u.ring.head?.map (·.epoch), newest := u.ring.getLast?.map (·.epoch),
                     postEnd := u.postEnd, countFrom := u.countFrom, crossings := u.crossings, attempt := u.attempt,
                     record := u.record }) ∧
     (q.operand = 0x09#8 → plain 4 .laneStatus fun i =>
       let l := s.lanes[i]
       .laneStatus { state := l.state, goodRun := l.goodRun, badRun := l.badRun, wordsTaken := l.wordsTaken,
                     lateWords := l.lateWords })) ∧
  (∀ (s : State) (q : Request) (rest : List Request), Executes .readChannelRuntime q rest s →
     (16 ≤ q.index.toNat → exec .readChannelRuntime s = .next (arbitrate (replied q rest .badIndex .nothing s))) ∧
     ∀ c : Fin 16, q.index.toNat = c →
       exec .readChannelRuntime s = .next (arbitrate (replied q rest .ok
         (.read .channelRuntime q.index .edit (.channelRuntime s.channels.runtime[c]))
         { s with
           channels := { s.channels with
             runtime :=
               if q.options.getLsbD 2 then
                 Table.put s.channels.runtime c { s.channels.runtime[c] with peakMax := none, peakMin := none }
               else s.channels.runtime } }))) ∧
  ∀ (s : State) (q : Request) (rest : List Request), Executes .write q rest s →
    (10 ≤ q.operand.toNat → exec .write s = .next (arbitrate (replied q rest .badTable .nothing s))) ∧
    (q.operand ∈ [0x02#8, 0x06#8, 0x08#8, 0x09#8] →
      exec .write s = .next (arbitrate (replied q rest .readOnly .nothing s)))

/-- R10, R14, R166: a WRITE to CONTROL, its checks in their order and its effects. Lanes disabled together leave
LOCKED in one event, and the alert rule is applied last (log entries 7 and 8, the model's choices). -/
def Obligations.WriteControl : Prop :=
  ∀ (s : State) (q : Request) (rest : List Request), Executes .writeControl q rest s →
    let no (status : Status) := exec .writeControl s = .next (arbitrate (replied q rest status .nothing s))
    (q.index ≠ 0 → no .badIndex) ∧
    (q.index = 0 → q.payload.length ≠ 6 → no .badValue) ∧
    ∀ p1 p0 lanes alerts options reserved, q.index = 0 → q.payload = [p1, p0, lanes, alerts, options, reserved] →
      let period : BitVec 16 := p1 ++ p0
      let now : LaneSet := lanes.setWidth 4
      (period.toNat < 10 → no .badValue) ∧
      (10 ≤ period.toNat → s.timer.state = .running → period ≠ s.mgmt.control.period → no .busy) ∧
      (10 ≤ period.toNat → (s.timer.state = .running → period = s.mgmt.control.period) →
        ∃ leaving : LaneSet,
          (∀ l : Fin 4, has leaving l = true ↔ s.lanes[l].state = .locked ∧
            has s.mgmt.control.lanes l = true ∧ has now l = false) ∧
          let u : State := { s with
            mgmt := { s.mgmt with control :=
              { period := period, lanes := now, alerts := alerts.setWidth 7, streamEnable := options.getLsbD 0 } }
            lanes := Vector.ofFn fun l =>
              if has s.mgmt.control.lanes l = has now l then s.lanes[l]
              else { s.lanes[l] with state := if has now l then .seeking else .off, goodRun := 0, badRun := 0 } }
          let v : State := if leaving = 0 then u else completenessTest { u with
            channels := { s.channels with
              runtime := Vector.ofFn fun c =>
                if has leaving s.channels.table[c].lane then { s.channels.runtime[c] with
                  crossing := .unknown, previous := none, lastCrossing := none, lastPeriod := none }
                else s.channels.runtime[c] }
            timer := { s.timer with participating := s.timer.participating &&& ~~~ leaving } }
          let w := settleAlerts v
          exec .writeControl s = .next (arbitrate { w with mgmt := { w.mgmt with
            requests := rest
            replies := w.mgmt.replies ++
              [{ tag := q.tag, kind := q.kind, status := .ok, content := .wrote .control q.index }] } }))

/-- R20, R21, R22, R79, R116: a WRITE to CHANNEL, its checks in their order and its effects. The reload handed to the
Stream Forwarder keeps what that block reads of the replaced entry and the number of records waiting there, all built
before the write (log entry 6). That it joins the reloads still to be taken at their end is log entry 18 (the model's
choice). -/
def Obligations.WriteChannel : Prop :=
  ∀ (s : State) (q : Request) (rest : List Request), Executes .writeChannel q rest s →
    let no (status : Status) := exec .writeChannel s = .next (arbitrate (replied q rest status .nothing s))
    (16 ≤ q.index.toNat → no .badIndex) ∧
    ∀ c : Fin 16, q.index.toNat = c →
      let isProtected := ∃ u : Fin 4, s.capture.units[u].state ≠ .idle ∧ (has s.capture.configs[u].mask c = true ∨
        (s.capture.configs[u].postMode = .cycles ∧ s.capture.configs[u].reference = c))
      (channelOf q.payload = none → no .badValue) ∧
      ∀ e, channelOf q.payload = some e →
        (isProtected → no .busy) ∧
        (¬isProtected →
          let u : State := { s with
            channels := { s.channels with
              table := Table.put s.channels.table c e
              runtime := Table.put s.channels.runtime c { s.channels.runtime[c] with
                crossing := .unknown, previous := none, lastCrossing := none, lastPeriod := none }
              openValues := Table.put s.channels.openValues c none }
            stream := { s.stream with reloads := s.stream.reloads ++
              [{ channel := c, divisor := e.divisor
                 replaced := { enabled := s.channels.table[c].enabled, forward := s.channels.table[c].forward,
                               divisor := s.channels.table[c].divisor }
                 before := s.stream.records.length }] } }
          let changed := ∃ l : Fin 4, has s.timer.participating l = true ∧
            expectedSet s.channels.table l ≠ expectedSet u.channels.table l
          ∃ t, ((changed → t = completenessTest u) ∧ (¬changed → t = u)) ∧
            exec .writeChannel s = .next (arbitrate (replied q rest .ok (.wrote .channel q.index) t)))

/-- R40, R41, R60, R74, R125: a WRITE to LEVEL, CONDITION or TRIGGER is checked for its index, then its payload, then
a pending commit, and goes to the EDIT bank; a WRITE to UNIT is checked for its index, its payload and the unit's
state, and replaces the entry. -/
def Obligations.WriteOfBankedTablesAndUnit : Prop :=
  (∀ (s : State) (q : Request) (rest : List Request),
     (Executes .writeLevel q rest s →
       let no (status : Status) := exec .writeLevel s = .next (arbitrate (replied q rest status .nothing s))
       (32 ≤ q.index.toNat → no .badIndex) ∧
       ∀ i : Fin 32, q.index.toNat = i →
         (levelOf q.payload = none → no .badValue) ∧
         ∀ v, levelOf q.payload = some v → (s.conditions.commit = .pending → no .busy) ∧
           (s.conditions.commit = .none → exec .writeLevel s = .next (arbitrate
             (replied q rest .ok (.wrote .level q.index) { s with conditions := { s.conditions with
               edit := { s.conditions.edit with levels := Table.put s.conditions.edit.levels i v } } })))) ∧
     (Executes .writeCondition q rest s →
       let no (status : Status) := exec .writeCondition s = .next (arbitrate (replied q rest status .nothing s))
       (64 ≤ q.index.toNat → no .badIndex) ∧
       ∀ i : Fin 64, q.index.toNat = i →
         (conditionOf q.payload = none → no .badValue) ∧
         ∀ e, conditionOf q.payload = some e → (s.conditions.commit = .pending → no .busy) ∧
           (s.conditions.commit = .none → exec .writeCondition s = .next (arbitrate
             (replied q rest .ok (.wrote .condition q.index) { s with conditions := { s.conditions with
               edit := { s.conditions.edit with list := Table.put s.conditions.edit.list i e } } })))) ∧
     (Executes .writeTrigger q rest s →
       let no (status : Status) := exec .writeTrigger s = .next (arbitrate (replied q rest status .nothing s))
       (8 ≤ q.index.toNat → no .badIndex) ∧
       ∀ i : Fin 8, q.index.toNat = i →
         (triggerOf q.payload = none → no .badValue) ∧
         ∀ e, triggerOf q.payload = some e → (s.conditions.commit = .pending → no .busy) ∧
           (s.conditions.commit = .none → exec .writeTrigger s = .next (arbitrate
             (replied q rest .ok (.wrote .trigger q.index) { s with conditions := { s.conditions with
               edit := { s.conditions.edit with triggers := Table.put s.conditions.edit.triggers i e } } }))))) ∧
  ∀ (s : State) (q : Request) (rest : List Request), Executes .writeUnit q rest s →
    let no (status : Status) := exec .writeUnit s = .next (arbitrate (replied q rest status .nothing s))
    (4 ≤ q.index.toNat → no .badIndex) ∧
    ∀ u : Fin 4, q.index.toNat = u →
      (unitOf q.payload = none → no .badValue) ∧
      ∀ c, unitOf q.payload = some c →
        (s.capture.units[u].state ≠ .idle → no .wrongState) ∧
        (s.capture.units[u].state = .idle → exec .writeUnit s = .next (arbitrate
          (replied q rest .ok (.wrote .unit q.index)
            { s with capture := { s.capture with configs := Table.put s.capture.configs u c } })))

/-- R20, R40, R41, R60, R74, R75, R166: the payloads that are refused BAD-VALUE, byte by byte in the layouts of Table
12-8: a wrong length, or a value outside its range. -/
def Obligations.RefusedPayloads : Prop :=
  (∀ p, controlOf p = none ↔ p.length ≠ 6 ∨ ∃ p1 p0 lanes alerts options reserved,
    p = [p1, p0, lanes, alerts, options, reserved] ∧ 256 * p1.toNat + p0.toNat < 10) ∧
  (∀ p, levelOf p = none ↔ p.length ≠ 2) ∧
  (∀ p, triggerOf p = none ↔ p.length ≠ 4 ∨ ∃ target r h1 h0, p = [target, r, h1, h0] ∧ 4 ≤ target.toNat ∧
    target.toNat ≠ 255) ∧
  (∀ p, channelOf p = none ↔ p.length ≠ 12 ∨
    ∃ f src coding dir o1 o0 l1 l0 h1 h0 d1 d0, p = [f, src, coding, dir, o1, o0, l1, l0, h1, h0, d1, d0] ∧
      (4 ≤ src.toNat / 16 ∨ 8 ≤ src.toNat % 16 ∨ 2 ≤ coding.toNat ∨ 3 ≤ dir.toNat ∨
        4095 < 256 * h1.toNat + h0.toNat ∨ 256 * d1.toNat + d0.toNat = 0 ∨ 256 < 256 * d1.toNat + d0.toNat)) ∧
  (∀ p, conditionOf p = none ↔ p.length ≠ 10 ∨
    ∃ f test ch a b k1 v1 k2 v2 r, p = [f, test, ch, a, b, k1, v1, k2, v2, r] ∧
      (8 ≤ test.toNat ∨ 16 ≤ ch.toNat ∨ 32 ≤ a.toNat ∨ 32 ≤ b.toNat ∨ 5 ≤ k1.toNat ∨ 5 ≤ k2.toNat ∨
        (k1 = 1 ∧ v1.toNat % 16 = 0) ∨ (k2 = 1 ∧ v2.toNat % 16 = 0) ∨
        (k1.toNat ∈ [2, 3] ∧ 8 ≤ v1.toNat) ∨ (k2.toNat ∈ [2, 3] ∧ 8 ≤ v2.toNat))) ∧
  (∀ c : UnitConfig, c.usable = true ↔
    c.firstBlock + c.blockCount ≤ 64 ∧ 1 ≤ c.blockCount ∧ c.mask ≠ 0 ∧
    let depth := 256 * c.blockCount / ((List.finRange 16).filter fun ch : Fin 16 => c.mask.getLsbD ch.val).length
    match c.postMode with
    | .epochs => c.pre + 1 + c.postLength ≤ depth
    | .cycles => 1 ≤ c.postLength ∧ c.postLength ≤ 255 ∧ 1 ≤ c.guard ∧ c.pre + 1 + c.guard ≤ depth) ∧
  (∀ p, unitOf p = none ↔ p.length ≠ 16 ∨
    ∃ f first count mode m1 m0 p1 p0 l1 l0 g1 g0 ref re ho ar,
      p = [f, first, count, mode, m1, m0, p1, p0, l1, l0, g1, g0, ref, re, ho, ar] ∧
      (64 ≤ first.toNat ∨ 64 < count.toNat ∨ 2 ≤ mode.toNat ∨ 4095 < 256 * p1.toNat + p0.toNat ∨
        4095 < 256 * l1.toNat + l0.toNat ∨ 4095 < 256 * g1.toNat + g0.toNat ∨ 16 ≤ ref.toNat ∨ 2 ≤ re.toNat ∨
        2 ≤ ho.toNat ∨ 2 ≤ ar.toNat ∨
        (f.getLsbD 0 = true ∧ ∀ c : UnitConfig, c.firstBlock = first.toNat → c.blockCount = count.toNat →
          c.mask = m1 ++ m0 → c.pre = 256 * p1.toNat + p0.toNat → c.postMode = (if mode = 0 then .epochs else .cycles) →
          c.postLength = 256 * l1.toNat + l0.toNat → c.guard = 256 * g1.toNat + g0.toNat → c.usable = false)))

/-! ### Conditions, triggers and commit (chapters 3, 4 and 8) -/

/-- R43, R44: the four tests that compare a value with levels, and their dependence on the value and the levels
alone. -/
def Obligations.LevelTests : Prop :=
  ∀ (levels : Table Value 32) (rec : EpochRecord) (e : ConditionEntry),
    let run (k : Test) := evalTest levels rec { e with test := k }
    let a := levels[e.levelA].toInt
    let b := levels[e.levelB].toInt
    (rec.fields[e.channel].value = none →
      run .above = false ∧ run .below = false ∧ run .inside = false ∧ run .outside = false) ∧
    ∀ v, rec.fields[e.channel].value = some v →
      (run .above = true ↔ a < v.toInt) ∧ (run .below = true ↔ v.toInt < a) ∧
      (run .inside = true ↔ a ≤ v.toInt ∧ v.toInt ≤ b) ∧ (run .outside = true ↔ v.toInt < a ∨ b < v.toInt) ∧
      (a = 32767 → run .above = false) ∧ (a = -32768 → run .below = false) ∧
      (run .outside = !run .inside) ∧ (b < a → run .inside = false ∧ run .outside = true) ∧
      (e.levelA = e.levelB → (run .inside = true ↔ v = levels[e.levelA]) ∧
        (run .outside = true ↔ v ≠ levels[e.levelA])) ∧
      ∀ other : EpochRecord, other.fields[e.channel].value = some v → ∀ k ∈ [Test.above, .below, .inside, .outside],
        evalTest levels other { e with test := k } = run k

/-- R42, R45, R46: CROSSED, RISE, FALL and ABSENT. -/
def Obligations.RecordTests : Prop :=
  ∀ (levels : Table Value 32) (rec : EpochRecord) (e : ConditionEntry),
    let run (k : Test) := evalTest levels rec { e with test := k }
    let f := rec.fields[e.channel]
    let a := levels[e.levelA].toInt
    (run .crossed = true ↔ f.value ≠ none ∧ f.crossed = true) ∧
    (run .rise = true ↔ f.value ≠ none ∧ ∃ d, f.delta = some d ∧ a < d) ∧
    (run .fall = true ↔ f.value ≠ none ∧ ∃ d, f.delta = some d ∧ a < -d) ∧
    (run .absent = true ↔ f.value = none)

/-- R47 to R51, R54: a walk starts at entry 0 of the list with no trigger fired; from one entry on, the walk by the
action it takes: a SKIP drops as many entries as its distance, FIRE and FIRE-END fire a trigger not fired before in
this walk, and the walk ends at END, at FIRE-END, at an entry not in use and past the last entry. -/
def Obligations.WalkByActions : Prop :=
  (∀ (b : Bank) (rec : EpochRecord), walkFires b rec = walkEntries b.levels rec b.list.toList 0 []) ∧
  ∀ (levels : Table Value 32) (rec : EpochRecord) (e : ConditionEntry) (rest : List ConditionEntry)
    (fired : List (Fin 8)),
    let walk (es : List ConditionEntry) (f : List (Fin 8)) := walkEntries levels rec es 0 f
    let with' (t : Fin 8) := if t ∈ fired then fired else fired ++ [t]
    walk [] fired = fired ∧
    (e.inUse = false → walk (e :: rest) fired = fired) ∧
    (e.inUse = true → walk (e :: rest) fired =
      match if evalTest levels rec e then e.onTrue else e.onFalse with
      | .next => walk rest fired
      | .skip k => walk (rest.drop k) fired
      | .fire t => walk rest (with' t)
      | .fireEnd t => with' t
      | .endWalk => fired)

/-- R50, R51: a walk fires each trigger at most once, and only triggers that an entry in use names in the action it
takes. -/
def Obligations.WalkFiresEachTriggerOnce : Prop :=
  ∀ (b : Bank) (rec : EpochRecord),
    (walkFires b rec).Nodup ∧
    ∀ t ∈ walkFires b rec, ∃ i : Fin 64, b.list[i].inUse = true ∧
      (chosenAction b.levels rec b.list[i] = .fire t ∨ chosenAction b.levels rec b.list[i] = .fireEnd t)

/-- R63, R64, R65, R71: a walk fire is suppressed while the hold-off remains; otherwise it is counted, dated, loads the
hold-off, and goes to the unit the LIVE entry targets. That it is not sent to a Capture Controller that has taken a
later soft reset, and that it names no waiting request, is log entry 2 (the model's choice). -/
def Obligations.WalkFireHandled : Prop :=
  ∀ (s : State) (n : Epoch) (t : Fin 8),
    let r := s.conditions.triggers[t]
    let entry := s.conditions.live.triggers[t]
    let put (r' : TriggerRuntime) : ConditionEngine :=
      { s.conditions with triggers := Table.put s.conditions.triggers t r' }
    let accepted := put { r with
      fires := min 65535 (r.fires + 1), lastFire := some n, remaining := entry.holdOff }
    (r.remaining ≠ 0 →
      handleFire n s t = { s with conditions := put { r with suppressed := min 65535 (r.suppressed + 1) } }) ∧
    (r.remaining = 0 → entry.target = none → handleFire n s t = { s with conditions := accepted }) ∧
    ∀ u, r.remaining = 0 → entry.target = some u → handleFire n s t = { s with
      conditions := accepted
      capture := { s.capture with fires := s.capture.fires ++
        if s.capture.resetsTaken ≤ s.conditions.resetsTaken then
          [{ unit := u, trigger := t, epoch := n, generation := s.conditions.generation, forced := false,
             waiter := none }]
        else [] } }

/-- R52 to R55, R62, R128: the walk of the next record: the commit check, the hold-off countdown, and the fires of
its entries under the LIVE banks, handled in order. -/
def Obligations.WalkOfARecord : Prop :=
  ∀ (s : State) (o : Offered) (rest : List Offered),
    s.conditions.records = o :: rest → o.run = s.conditions.resetsTaken →
    let p := swapPending o.record.epoch { s with conditions := { s.conditions with records := rest } }
    let c : State := { p with conditions := { p.conditions with
      nextWalk := o.record.epoch + 1
      triggers := Vector.ofFn fun t =>
        { p.conditions.triggers[t] with remaining := p.conditions.triggers[t].remaining - 1 } } }
    exec .walk s = .next (arbitrate
      ((walkFires p.conditions.live o.record).foldl (handleFire o.record.epoch) c))

/-- R66, R69: an answer is taken: a MISSED one is counted and raises TRIGGER-MISSED, and the FIRE request waiting for
this answer is replied to. The waiter number that ties the two together is log entry 2 (the model's choice). -/
def Obligations.AnswerTaken : Prop :=
  ∀ (s : State) (a : FireAnswer) (rest : List FireAnswer), s.conditions.answers = a :: rest →
    let r := s.conditions.triggers[a.trigger]
    let u : State := { s with
      conditions := { s.conditions with
        answers := rest
        triggers := if a.answer = .missed then
            Table.put s.conditions.triggers a.trigger { r with missed := min 65535 (r.missed + 1) }
          else s.conditions.triggers }
      alerts := { s.alerts with
        raises := s.alerts.raises ++ if a.answer = .missed then [.triggerMissed] else [] } }
    ((∀ w t e, s.mgmt.exec = .awaitAnswer w t e → a.waiter ≠ some w) →
      exec .fireAnswer s = .next (arbitrate u)) ∧
    ∀ w t e q requests, s.mgmt.exec = .awaitAnswer w t e → a.waiter = some w → s.mgmt.requests = q :: requests →
      exec .fireAnswer s = .next (arbitrate (replied q requests .ok (.fire t (some a.answer) e) u))

/-- R67, R68, R69, R71: the FIRE request: its checks, a forced fire of a trigger without a target, and one sent to a
unit, whose request waits at the head of the queue. The waiter number, and that the fire is not sent to a Capture
Controller that has taken a later soft reset, are log entry 2 (the model's choice). -/
def Obligations.FireOnRequest : Prop :=
  ∀ (s : State) (q : Request) (rest : List Request), Executes .fire q rest s →
    let no (status : Status) := exec .fire s = .next (arbitrate (replied q rest status .nothing s))
    (8 ≤ q.operand.toNat → no .badIndex) ∧
    ∀ t : Fin 8, q.operand.toNat = t →
      (s.timer.lastClosed = none → no .wrongState) ∧
      ∀ l, s.timer.lastClosed = some l →
        let r := s.conditions.triggers[t]
        let counted : ConditionEngine := { s.conditions with
          triggers := Table.put s.conditions.triggers t
            { r with fires := min 65535 (r.fires + 1), lastFire := some l } }
        (s.conditions.live.triggers[t].target = none → exec .fire s = .next (arbitrate
          (replied q rest .ok (.fire t none l) { s with conditions := counted }))) ∧
        ∀ u, s.conditions.live.triggers[t].target = some u → exec .fire s = .next (arbitrate { s with
          conditions := counted
          capture := { s.capture with fires := s.capture.fires ++
            if s.capture.resetsTaken ≤ s.conditions.resetsTaken then
              [{ unit := u, trigger := t, epoch := l, generation := s.conditions.generation, forced := true,
                 waiter := some s.mgmt.nextWaiter }]
            else [] }
          mgmt := { s.mgmt with
            exec := .awaitAnswer s.mgmt.nextWaiter t l
            nextWaiter := s.mgmt.nextWaiter + 1 } })

/-- R126: the three outcomes of a COMMIT. -/
def Obligations.CommitRequest : Prop :=
  ∀ (s : State) (q : Request) (rest : List Request), Executes .commit q rest s →
    (s.conditions.commit = .pending → exec .commit s = .next (arbitrate (replied q rest .busy .nothing s))) ∧
    (s.conditions.commit = .none → s.timer.state = .stopped → exec .commit s = .next (arbitrate
      (replied q rest .ok (.commit (s.conditions.generation + 1) s.conditions.nextWalk) { s with
        conditions := { s.conditions with
          live := s.conditions.edit
          generation := s.conditions.generation + 1
          triggers := Vector.ofFn fun t => { s.conditions.triggers[t] with remaining := 0 } } }))) ∧
    (s.conditions.commit = .none → s.timer.state = .running → exec .commit s = .next (arbitrate { s with
      conditions := { s.conditions with commit := .pending }
      mgmt := { s.mgmt with requests := rest, deferred := some q.tag } }))

/-- R131: DISCARD-EDITS copies LIVE into EDIT, and is refused BUSY while a commit is pending. -/
def Obligations.DiscardEditsRequest : Prop :=
  ∀ (s : State) (q : Request) (rest : List Request), Executes .discardEdits q rest s →
    (s.conditions.commit = .pending →
      exec .discardEdits s = .next (arbitrate (replied q rest .busy .nothing s))) ∧
    (s.conditions.commit = .none → exec .discardEdits s = .next (arbitrate
      (replied q rest .ok (.generation s.conditions.generation)
        { s with conditions := { s.conditions with edit := s.conditions.live } })))

/-! ### Capture units (chapter 5) -/

/-- R80: ARM: its checks in their order, and the unit armed. -/
def Obligations.ArmRequest : Prop :=
  ∀ (s : State) (q : Request) (rest : List Request), Executes .arm q rest s →
    let no (status : Status) := exec .arm s = .next (arbitrate (replied q rest status .nothing s))
    (4 ≤ q.operand.toNat → no .badIndex) ∧
    ∀ u : Fin 4, q.operand.toNat = u →
      let c := s.capture.configs[u]
      let blocks (v : Fin 4) (b : Nat) :=
        s.capture.configs[v].firstBlock ≤ b ∧ b < s.capture.configs[v].firstBlock + s.capture.configs[v].blockCount
      let overlap := ∃ v, v ≠ u ∧ s.capture.units[v].state ≠ .idle ∧ ∃ b, blocks u b ∧ blocks v b
      (s.capture.units[u].state ≠ .idle → no .wrongState) ∧
      (s.capture.units[u].state = .idle → c.inUse = false → no .badValue) ∧
      (s.capture.units[u].state = .idle → c.inUse = true → overlap → no .overlap) ∧
      (s.capture.units[u].state = .idle → c.inUse = true → ¬overlap →
        exec .arm s = .next (arbitrate (replied q rest .ok (.unit u) { s with
          capture := { s.capture with
            units := Table.put s.capture.units u
              { state := if c.pre = 0 then .armed else .filling, startEpoch := some s.capture.nextRecord, ring := [],
                record := none, postEnd := none, countFrom := none, crossings := 0, attempt := none } } })))

/-- R93, R94, R95, R108: ABORT of a unit in DRAINING cuts its drain, and of any other unit sends it to IDLE and out
of the drain queue; RELEASE and REPLAY of a DELIVERED unit; and the refusals of the three. That an ABORT of a unit in
DRAINING, for which the Delivery Engine holds no drain between the blocks' soft resets, answers OK and changes nothing
else is log entry 9 (a reading). -/
def Obligations.AbortReleaseReplay : Prop :=
  (∀ (s : State) (q : Request) (rest : List Request), Executes .abort q rest s →
     let no (status : Status) := exec .abort s = .next (arbitrate (replied q rest status .nothing s))
     (4 ≤ q.operand.toNat → no .badIndex) ∧
     ∀ u : Fin 4, q.operand.toNat = u →
       (s.capture.units[u].state = .idle → no .wrongState) ∧
       (∀ d, s.capture.units[u].state = .draining → s.delivery.drain = some d → d.unit = u →
         exec .abort s = .next (arbitrate (replied q rest .ok (.unit u)
           { s with delivery := { s.delivery with drain := some { d with cut := true } } }))) ∧
       (s.capture.units[u].state = .draining → (∀ d, s.delivery.drain = some d → d.unit ≠ u) →
         exec .abort s = .next (arbitrate (replied q rest .ok (.unit u) s))) ∧
       (s.capture.units[u].state ≠ .idle → s.capture.units[u].state ≠ .draining →
         exec .abort s = .next (arbitrate (replied q rest .ok (.unit u) { s with
           capture := { s.capture with
             units := Table.put s.capture.units u
               { state := .idle, startEpoch := none, ring := [], record := none, postEnd := none, countFrom := none,
                 crossings := 0, attempt := none }
             drainQueue := s.capture.drainQueue.filter fun v => v ≠ u } })))) ∧
  ∀ (s : State) (q : Request) (rest : List Request),
    (Executes .release q rest s →
      let no (status : Status) := exec .release s = .next (arbitrate (replied q rest status .nothing s))
      (4 ≤ q.operand.toNat → no .badIndex) ∧
      ∀ u : Fin 4, q.operand.toNat = u →
        let c := s.capture.configs[u]
        let empty (st : UnitState) (start : Option Epoch) : UnitRuntime :=
          { state := st, startEpoch := start, ring := [], record := none, postEnd := none, countFrom := none,
            crossings := 0, attempt := none }
        (s.capture.units[u].state ≠ .delivered → no .wrongState) ∧
        (s.capture.units[u].state = .delivered → exec .release s = .next (arbitrate (replied q rest .ok (.unit u)
          { s with capture := { s.capture with units := Table.put s.capture.units u (match c.afterRelease with
            | .oneShot => empty .idle none
            | .rearm => empty (if c.pre = 0 then .armed else .filling) (some s.capture.nextRecord)) } })))) ∧
    (Executes .replay q rest s →
      let no (status : Status) := exec .replay s = .next (arbitrate (replied q rest status .nothing s))
      (4 ≤ q.operand.toNat → no .badIndex) ∧
      ∀ u : Fin 4, q.operand.toNat = u →
        (s.capture.units[u].state ≠ .delivered → no .wrongState) ∧
        (s.capture.units[u].state = .delivered → exec .replay s = .next (arbitrate (replied q rest .ok (.unit u)
          { s with capture := { s.capture with
            units := Table.put s.capture.units u { s.capture.units[u] with state := .held }
            drainQueue := s.capture.drainQueue ++ [u] } }))))

/-- R77, R81, R82, R83, R91: a unit's part in the taking of a record, in every state of the unit; and the window test
of a slot at or after the trigger epoch, in both post modes, with the freeze it takes. First comes the order of epoch
numbers modulo 2^32 in which all this is said (section 0.8; log entry 12, a reading of it): an epoch is before those
that follow it by less than 2^31, and those are not before it. -/
def Obligations.RingWriteAndWindowTest : Prop :=
  (∀ (a : Epoch) (k : Nat), 0 < k → k < 2147483648 →
     epochBefore a (a + BitVec.ofNat 32 k) = true ∧ epochBefore (a + BitVec.ofNat 32 k) a = false) ∧
  (∀ a : Epoch, epochBefore a a = false) ∧
  (∀ (c : UnitConfig) (rec : EpochRecord) (u : UnitRuntime),
     let slot : Slot :=
       { epoch := rec.epoch
         values := ((List.finRange 16).filter fun ch : Fin 16 => c.mask.getLsbD ch.val).map fun ch =>
           (ch, rec.fields[ch].value)
         mark := c.postMode = .cycles ∧ rec.fields[c.reference].crossed = true }
     let ring := (if c.depth ≤ u.ring.length then u.ring.tail else u.ring) ++ [slot]
     (u.state ∈ [UnitState.idle, .held, .draining, .delivered] → unitTakes c rec u = u) ∧
     (u.state = .filling → unitTakes c rec u =
       { u with ring := ring, state := if c.pre ≤ ring.length then .armed else .filling }) ∧
     (u.state = .armed → unitTakes c rec u = { u with ring := ring }) ∧
     ∀ r, u.state = .post → u.record = some r →
       unitTakes c rec u =
         if epochBefore rec.epoch (r.triggerEpoch - BitVec.ofNat 32 r.preActual) = true then u
         else if epochBefore rec.epoch r.triggerEpoch = true then { u with ring := u.ring ++ [slot] }
         else windowTest c r slot { u with ring := u.ring ++ [slot] }) ∧
  ∀ (c : UnitConfig) (r : CaptureRecord) (t : Slot) (u : UnitRuntime),
    let post := (t.epoch - r.triggerEpoch).toNat
    let frozen (reason : EndReason) (v : UnitRuntime) : UnitRuntime :=
      let ring := v.ring.filter fun x => !epochBefore t.epoch x.epoch
      { v with
        state := .held
        ring := ring
        record := some { r with
          settled := some { postActual := post, endReason := reason,
                            gaps := ring.any fun x => x.values.any fun value => value.2.isNone } } }
    let depth (v : UnitRuntime) := if r.preActual + post + 1 = c.depth then frozen .depthLimit v else v
    (c.postMode = .epochs →
      windowTest c r t u = if u.postEnd = some t.epoch then frozen .complete u else depth u) ∧
    ∀ f, c.postMode = .cycles → u.countFrom = some f →
      let n := if epochBefore f t.epoch = true ∧ t.mark = true then min 255 (u.crossings + 1) else u.crossings
      let v := { u with crossings := n }
      windowTest c r t u =
        if n = c.postLength then frozen .complete v
        else if f + BitVec.ofNat 32 c.guard = t.epoch then frozen .cycleTimeout v else depth v

/-- R78, R91: the taking of the next record: every unit takes it, units that freeze join the drain queue in
increasing unit order (log entry 13, the model's choice), and the next record epoch is the one after it. -/
def Obligations.CaptureTakesARecord : Prop :=
  ∀ (s : State) (o : Offered) (rest : List Offered),
    s.capture.records = o :: rest → o.run = s.capture.resetsTaken →
    let after (u : Fin 4) := unitTakes s.capture.configs[u] o.record s.capture.units[u]
    exec .captureRecordTake s = .next { s with capture := { s.capture with
      records := rest
      nextRecord := o.record.epoch + 1
      units := Vector.ofFn after
      drainQueue := s.capture.drainQueue ++
        (List.finRange 4).filter fun u => s.capture.units[u].state = .post ∧ (after u).state = .held } }

/-- R71, R84 to R86, R88, R89, R91, R92: a fire request that starts a capture, is missed, or is a retrigger of a unit in
POST, under both policies and in both post modes; first, the window test of the slots a starting fire finds in the
ring, one after the other until one freezes the unit. That no answer goes to a Condition Engine that has taken a later
soft reset is log entry 2 (the model's choice); the order of epochs is log entry 12. -/
def Obligations.FireAnswered : Prop :=
  (∀ (c : UnitConfig) (r : CaptureRecord) (u : UnitRuntime), testHeld c r [] u = u ∧
     ∀ (t : Slot) (rest : List Slot), testHeld c r (t :: rest) u =
       if (windowTest c r t u).state = .held then windowTest c r t u else testHeld c r rest (windowTest c r t u)) ∧
  (∀ (s : State) (f : FireRequest) (rest : List FireRequest), s.capture.fires = f :: rest →
     let u := s.capture.units[f.unit]
     let c := s.capture.configs[f.unit]
     let answer (a : Answer) : ConditionEngine := { s.conditions with
       answers := s.conditions.answers ++
         if s.conditions.resetsTaken ≤ s.capture.resetsTaken then
           [{ trigger := f.trigger, answer := a, waiter := f.waiter }]
         else [] }
     let floor := if u.ring = [] then u.startEpoch else u.ring.head?.map (·.epoch)
     let missed := exec .fireRequest s = .next { s with
       capture := { s.capture with fires := rest }, conditions := answer .missed }
     (u.state ∈ [UnitState.idle, .held, .draining, .delivered] → missed) ∧
     ∀ e, u.state ∈ [UnitState.filling, .armed] → floor = some e →
       (epochBefore f.epoch e = true → missed) ∧
       (epochBefore f.epoch e = false →
         let p := min c.pre (f.epoch - e).toNat
         let r : CaptureRecord :=
           { number := s.capture.number, unit := f.unit, trigger := f.trigger, forced := f.forced,
             triggerEpoch := f.epoch, generation := f.generation, mask := c.mask, preActual := p,
             truncated := p < c.pre, retriggers := 0, settled := none }
         let ring := u.ring.filter fun t => !epochBefore t.epoch (f.epoch - BitVec.ofNat 32 p)
         let after := testHeld c r (ring.filter fun t => !epochBefore t.epoch f.epoch)
           { u with
             state := .post
             ring := ring
             record := some r
             postEnd := if c.postMode = .epochs then some (f.epoch + BitVec.ofNat 32 c.postLength) else none
             countFrom := if c.postMode = .epochs then none else some f.epoch
             crossings := 0 }
         exec .fireRequest s = .next { s with
           capture := { s.capture with
             fires := rest
             number := s.capture.number + 1
             units := Table.put s.capture.units f.unit after
             drainQueue := s.capture.drainQueue ++ if after.state = .held then [f.unit] else [] }
           conditions := answer (if p < c.pre then .truncated else .started) })) ∧
  ∀ (s : State) (f : FireRequest) (rest : List FireRequest) (r : CaptureRecord),
    s.capture.fires = f :: rest → s.capture.units[f.unit].state = .post →
    s.capture.units[f.unit].record = some r →
    let u := s.capture.units[f.unit]
    let c := s.capture.configs[f.unit]
    let counted := { u with record := some { r with retriggers := min 255 (r.retriggers + 1) } }
    let answered (v : UnitRuntime) := exec .fireRequest s = .next { s with
      capture := { s.capture with fires := rest, units := Table.put s.capture.units f.unit v }
      conditions := { s.conditions with answers := s.conditions.answers ++
        if s.conditions.resetsTaken ≤ s.capture.resetsTaken then
          [{ trigger := f.trigger, answer := .retriggered, waiter := f.waiter }]
        else [] } }
    (c.retrigger = .ignore → answered counted) ∧
    (∀ e, c.retrigger = .extend → c.postMode = .epochs → u.postEnd = some e →
      let later := f.epoch + BitVec.ofNat 32 c.postLength
      answered { counted with postEnd := some (if epochBefore e later = true then later else e) }) ∧
    ∀ e, c.retrigger = .extend → c.postMode = .cycles → u.countFrom = some e →
      (epochBefore e f.epoch = false → answered counted) ∧
      (epochBefore e f.epoch = true → answered { counted with
        countFrom := some f.epoch
        crossings := u.ring.countP fun t => epochBefore f.epoch t.epoch && t.mark })

/-! ### Delivery (chapter 6) -/

/-- R100, R101, R103, R110, R111: the start of a drain; and a link loss at the Delivery Engine: an uncut drain
returns its unit to the head of the drain queue, a cut one aborts it. That earlier frames of the engine no longer
concern it is log entry 3; that a drain waits for a link loss still to be taken, and that a loss taken while the two
blocks are out of step over a soft reset only drops the drain, is log entry 9 (a reading). -/
def Obligations.DrainStartsAndIsBroken : Prop :=
  (∀ (s : State) (u : Fin 4) (rest : List (Fin 4)) (r : CaptureRecord),
     s.delivery.drain = none → s.link.state = .up → LinkReport.linkLoss ∉ s.delivery.inbox →
     s.delivery.resetsTaken = s.capture.resetsTaken → s.capture.drainQueue = u :: rest →
     s.capture.units[u].record = some r →
     let attempt := match s.capture.units[u].attempt with
       | none => 1
       | some a => min 255 (a + 1)
     exec .drainStart s = .next (arbitrate { s with
       capture := { s.capture with
         drainQueue := rest
         units := Table.put s.capture.units u
           { s.capture.units[u] with state := .draining, attempt := some attempt } }
       delivery := { s.delivery with
         drain := some { unit := u, position := .header, mark := .offered
                         frame := .header r attempt s.capture.configs[u].postMode, segmentsDone := 0, cut := false } } })) ∧
  ∀ (s : State) (rest : List LinkReport), s.delivery.inbox = .linkLoss :: rest →
    let link := { s.link with tx := s.link.tx.map fun t =>
      if t.source = .delivery then { t with void := true } else t }
    let lost (capture : CaptureController) := exec .linkLossDelivery s = .next { s with
      link := link
      delivery := { s.delivery with drain := none, inbox := rest.map LinkReport.voided }
      capture := capture }
    (s.delivery.drain = none ∨ s.delivery.resetsTaken ≠ s.capture.resetsTaken → lost s.capture) ∧
    ∀ d, s.delivery.drain = some d → s.delivery.resetsTaken = s.capture.resetsTaken →
      (d.cut = false → lost { s.capture with
        units := Table.put s.capture.units d.unit { s.capture.units[d.unit] with state := .held }
        drainQueue := d.unit :: s.capture.drainQueue }) ∧
      (d.cut = true → lost { s.capture with
        units := Table.put s.capture.units d.unit
          { state := .idle, startEpoch := none, ring := [], record := none, postEnd := none, countFrom := none,
            crossings := 0, attempt := none }
        drainQueue := s.capture.drainQueue.filter fun v => v ≠ d.unit })

/-- R102, R104 to R109, R113: the completion of each frame of a drain, with and without a cut; the completions that
change nothing but the reports still to take: the frame given up at a soft reset or a link loss (log entry 3), the
engine IDLE, the current frame still OFFERED; and the completion of each frame while the Delivery Engine and the Capture
Controller are out of step over a soft reset, which offers no frame and hands no end back (log entry 9 for what it
does to the engine itself). -/
def Obligations.DrainAdvances : Prop :=
  (∀ (s : State) (void : Bool) (rest : List LinkReport), s.delivery.inbox = .completion void :: rest →
     let taken (drain : Option Drain) (raised : List AlertSource) :=
       exec .captureFrameCompletion s = .next (arbitrate { s with
         delivery := { s.delivery with inbox := rest, drain := drain }
         alerts := { s.alerts with raises := s.alerts.raises ++ raised } })
     ((void = true ∨ s.delivery.drain = none ∨ ∃ d, s.delivery.drain = some d ∧ d.mark = .offered) →
       taken s.delivery.drain []) ∧
     ∀ d, void = false → s.delivery.drain = some d → d.mark = .inTransmission →
       s.delivery.resetsTaken ≠ s.capture.resetsTaken →
       match d.position with
       | .header => taken (some d) []
       | .segment _ => taken (some { d with segmentsDone := d.segmentsDone + 1 }) []
       | .finish .aborted => taken none []
       | .finish .complete => taken none [.captureDelivered]) ∧
  ∀ (s : State) (rest : List LinkReport) (d : Drain) (r : CaptureRecord),
    s.delivery.inbox = .completion false :: rest → s.delivery.drain = some d → d.mark = .inTransmission →
    s.delivery.resetsTaken = s.capture.resetsTaken → s.capture.units[d.unit].record = some r →
    let ring := s.capture.units[d.unit].ring
    let c := s.capture.configs[d.unit]
    let total := (ring.length + 15) / 16
    let engine (drain : Option Drain) : DeliveryEngine := { s.delivery with inbox := rest, drain := drain }
    let offer (position : DrainPosition) (frame : CaptureFrame) (done : Nat) :=
      exec .captureFrameCompletion s = .next (arbitrate { s with delivery := engine (some
        { d with position := position, mark := .offered, frame := frame, segmentsDone := done }) })
    let segment (k done : Nat) := offer (.segment k)
      (.segment r.number d.unit k ((ring.drop (16 * k)).take 16)) done
    let finish (n done : Nat) (o : EndOutcome) := offer (.finish o) (.finish r.number d.unit n o) done
    let idle : UnitRuntime :=
      { state := .idle, startEpoch := none, ring := [], record := none, postEnd := none, countFrom := none,
        crossings := 0, attempt := none }
    let aborted : CaptureController := { s.capture with
      units := Table.put s.capture.units d.unit idle
      drainQueue := s.capture.drainQueue.filter fun v => v ≠ d.unit }
    let delivered : UnitRuntime := match c.handOff, c.afterRelease with
      | .retain, _ => { s.capture.units[d.unit] with state := .delivered }
      | .auto, .oneShot => idle
      | .auto, .rearm =>
        { idle with
          state := if c.pre = 0 then .armed else .filling
          startEpoch := some s.capture.nextRecord }
    let ended (raised : List AlertSource) (capture : CaptureController) :=
      exec .captureFrameCompletion s = .next (arbitrate { s with
        delivery := engine none
        capture := capture
        alerts := { s.alerts with raises := s.alerts.raises ++ raised } })
    match d.position, d.cut with
    | .header, false => segment 0 d.segmentsDone
    | .header, true => finish d.segmentsDone d.segmentsDone .aborted
    | .segment k, false => if k + 1 < total then segment (k + 1) (d.segmentsDone + 1)
        else finish total (d.segmentsDone + 1) .complete
    | .segment _, true => finish (d.segmentsDone + 1) (d.segmentsDone + 1) .aborted
    | .finish .aborted, _ => ended [] aborted
    | .finish .complete, true => ended [.captureDelivered] aborted
    | .finish .complete, false => ended [.captureDelivered]
        { s.capture with units := Table.put s.capture.units d.unit delivered }

/-! ### The sample stream (chapter 7) -/

/-- R115 to R119: the taking of the next record: the counters, the selection, and the frame queued, lost or not
built. Each channel is read from the channel table as it stands, or, for a record built before a WRITE whose reload is
still to be taken, from the entry that WRITE replaced: how the two rules meet is log entry 6. -/
def Obligations.StreamTakesARecord : Prop :=
  ∀ (s : State) (o : Offered) (rest : List Offered),
    s.stream.records = o :: rest → o.run = s.stream.resetsTaken →
    let view (c : Fin 16) : StreamView :=
      match s.stream.reloads.find? fun r => r.channel = c ∧ r.before ≠ 0 with
      | some r => r.replaced
      | none => { enabled := s.channels.table[c].enabled, forward := s.channels.table[c].forward,
                  divisor := s.channels.table[c].divisor }
    let counts (c : Fin 16) : Bool := (view c).enabled && (view c).forward
    let due (c : Fin 16) : Bool := counts c && s.stream.counters[c] - 1 == 0
    let chosen := ((List.finRange 16).filter due).map fun c => (c, o.record.fields[c].value)
    let f : StreamForwarder := { s.stream with
      records := rest
      reloads := s.stream.reloads.map fun r => { r with before := r.before - 1 }
      counters := Vector.ofFn fun c =>
        if due c then (view c).divisor
        else if counts c then s.stream.counters[c] - 1 else s.stream.counters[c] }
    let frame : StreamFrame :=
      { epoch := o.record.epoch, sequence := s.stream.sequence, gapCount := s.stream.gapCount, values := chosen }
    (((∀ c, due c = false) ∨ s.mgmt.control.streamEnable = false) →
      exec .streamRecordTake s = .next (arbitrate { s with stream := f })) ∧
    ((∃ c, due c = true) → s.mgmt.control.streamEnable = true → s.stream.queue.length < 16 →
      exec .streamRecordTake s = .next (arbitrate { s with stream := { f with
        queue := s.stream.queue ++ [frame], sequence := s.stream.sequence + 1, gapCount := 0 } })) ∧
    ((∃ c, due c = true) → s.mgmt.control.streamEnable = true → 16 ≤ s.stream.queue.length →
      exec .streamRecordTake s = .next (arbitrate { s with
        stream := { f with gapCount := min 65535 (s.stream.gapCount + 1) }
        alerts := { s.alerts with raises := s.alerts.raises ++ [.streamGap] } }))

/-- R116, R120 to R122: a reload, the completion of the head's transmission, the completions that change nothing but
the reports still to take (the frame given up, or the head still OFFERED), and a link loss at the Stream Forwarder. That
frames sent before a soft reset or a loss no longer concern it is log entry 3. That of several waiting reloads the one
of the earliest WRITE is taken is log entry 18 (the model's choice). -/
def Obligations.StreamReloadCompletionAndLoss : Prop :=
  ∀ s : State,
    (∀ r rest, s.stream.reloads = r :: rest → exec .decimationReload s = .next { s with stream := { s.stream with
      reloads := rest
      counters := Table.put s.stream.counters r.channel r.divisor } }) ∧
    (∀ rest, s.stream.inbox = .completion false :: rest → s.stream.headMark = .inTransmission →
      exec .streamFrameCompletion s = .next (arbitrate { s with stream := { s.stream with
        inbox := rest, queue := s.stream.queue.tail, headMark := .offered } })) ∧
    (∀ void rest, s.stream.inbox = .completion void :: rest → void = true ∨ s.stream.headMark = .offered →
      exec .streamFrameCompletion s = .next (arbitrate { s with stream := { s.stream with inbox := rest } })) ∧
    (∀ rest, s.stream.inbox = .linkLoss :: rest → exec .linkLossStream s = .next { s with
      link := { s.link with tx := s.link.tx.map fun t =>
        if t.source = .stream then { t with void := true } else t }
      stream := { s.stream with
        inbox := rest.map LinkReport.voided
        queue := []
        headMark := .offered
        gapCount := min 65535 (s.stream.gapCount + s.stream.queue.length) } })

/-! ### Alerts (chapter 9) -/

/-- R136 to R141, R143, Table 12-5: the bit of each of the seven sources in every set of sources; the taking of a raise,
the rule that offers or withdraws a NEW alert, the completion of a NEW alert and of a REPEAT, in OUTSTANDING and in
QUIET, and the completions that change nothing but the reports still to take: the frame given up at a soft reset or a
link loss (log entry 3), and no alert in transmission. -/
def Obligations.RaiseAndAlertCompletion : Prop :=
  (∀ a : AlertSource, (AlertSource.bit a).val = match a with
    | .captureDelivered => 0 | .triggerMissed => 1 | .sampleLate => 2 | .sampleMissing => 3 | .laneFault => 4
    | .streamGap => 5 | .linkProtocol => 6) ∧
  ((∀ s : State,
     let reportable := s.alerts.pending &&& s.mgmt.control.alerts
     settleAlerts s = { s with alerts := { s.alerts with
       offer :=
         if s.alerts.state = .quiet ∧ s.alerts.offer = .none ∧ reportable ≠ 0 then .newAlert .offered
         else if s.alerts.offer = .newAlert .offered ∧ reportable = 0 then .none
         else s.alerts.offer } }) ∧
   ∀ (s : State) (a : AlertSource), a ∈ s.alerts.raises →
     let one : AlertSet := single 7 (AlertSource.bit a)
     exec (.alertRaise a) s = .next (arbitrate (settleAlerts { s with alerts := { s.alerts with
       raises := s.alerts.raises.erase a
       pending := s.alerts.pending ||| one
       reRaised :=
         if s.alerts.offer = .newAlert .inTransmission ∧ s.alerts.sent &&& one = one then s.alerts.reRaised ||| one
         else s.alerts.reRaised } }))) ∧
  (∀ (s : State) (void : Bool) (rest : List LinkReport), s.alerts.inbox = .completion void :: rest →
     void = true ∨ (s.alerts.offer ≠ .newAlert .inTransmission ∧ s.alerts.offer ≠ .repeatAlert .inTransmission) →
     exec .alertFrameCompletion s = .next { s with alerts := { s.alerts with inbox := rest } }) ∧
  ∀ (s : State) (rest : List LinkReport), s.alerts.inbox = .completion false :: rest →
    let done (a : AlertUnit) := exec .alertFrameCompletion s = .next (arbitrate (settleAlerts { s with alerts := a }))
    (s.alerts.offer = .newAlert .inTransmission → done { s.alerts with
      inbox := rest
      reported := s.alerts.sent
      outstanding := some s.alerts.sequence
      sequence := s.alerts.sequence + 1
      pending := (s.alerts.pending &&& ~~~ s.alerts.sent) ||| (s.alerts.pending &&& s.alerts.reRaised)
      repeatCount := 0
      state := .outstanding
      timerRunning := true
      offer := .none
      sent := 0
      reRaised := 0 }) ∧
    (s.alerts.offer = .repeatAlert .inTransmission → s.alerts.state = .outstanding → done { s.alerts with
      inbox := rest, offer := .none, timerRunning := true }) ∧
    (s.alerts.offer = .repeatAlert .inTransmission → s.alerts.state = .quiet → done { s.alerts with
      inbox := rest, offer := .none })

/-- R139, R140, R142: the expiry of the re-announce timer offers a REPEAT; ALERT-ACK of the outstanding sequence
makes the alert QUIET, and any other is STALE; a link loss folds an outstanding alert back into the pending set. That
ALERT-ACK settles the alert before the arbiter starts a frame is log entry 8, and that the frames sent before the loss
no longer concern the Alert Unit is log entry 3. An ALERT-ACK is never executed once the Alert Unit has taken a link loss
that the Management Engine has still to take; that it waits at the head until then, and that a NEW alert the loss
returns to OFFERED is withdrawn when no pending source is enabled, is log entry 9 (readings). That an ALERT-ACK executed
after the Management Engine has taken a loss, the Alert Unit having it still to take, finds the alert as it stands and
may answer OK is log entry 19 (the model's choice). -/
def Obligations.RepeatAcknowledgementAndLoss : Prop :=
  (∀ s : State,
     (s.alerts.timerRunning = true → exec .reAnnounceTimerExpiry s = .next (arbitrate { s with
       alerts := { s.alerts with
         timerRunning := false
         repeatCount := min 255 (s.alerts.repeatCount + 1)
         offer := .repeatAlert .offered } })) ∧
     ∀ (q : Request) (rest : List Request), Executes .alertAck q rest s →
       let lossFirst := s.alerts.inbox.count .linkLoss < s.mgmt.inbox.count .linkLoss
       (lossFirst → exec .alertAck s = .next s) ∧
       (¬lossFirst → s.alerts.state = .outstanding → s.alerts.outstanding = some q.operand →
         exec .alertAck s = .next (arbitrate (replied q rest .ok (.acknowledged q.operand)
           (settleAlerts { s with alerts := { s.alerts with
             reported := 0
             outstanding := none
             repeatCount := 0
             timerRunning := false
             state := .quiet
             offer := if s.alerts.offer = .repeatAlert .offered then .none else s.alerts.offer } })))) ∧
       (¬lossFirst → s.alerts.state = .quiet ∨ s.alerts.outstanding ≠ some q.operand →
         exec .alertAck s = .next (arbitrate (replied q rest .stale .nothing s)))) ∧
  ∀ (s : State) (rest : List LinkReport), s.alerts.inbox = .linkLoss :: rest →
    let lost (a : AlertUnit) := exec .linkLossAlert s = .next (arbitrate (settleAlerts { s with
      link := { s.link with tx := s.link.tx.map fun t =>
        if t.source = .alert then { t with void := true } else t }
      alerts := { a with inbox := rest.map LinkReport.voided } }))
    (s.alerts.state = .outstanding → lost { s.alerts with
      pending := s.alerts.pending ||| s.alerts.reported
      reported := 0
      outstanding := none
      repeatCount := 0
      timerRunning := false
      state := .quiet
      offer := .none }) ∧
    (s.alerts.state = .quiet → lost { s.alerts with
      offer := match s.alerts.offer with
        | .newAlert _ => .newAlert .offered
        | _ => .none
      sent := 0
      reRaised := 0 })

/-! ### The collector link (chapter 10) -/

/-- R145 to R149: signal detected, loss of signal and a TRAIN frame, in every link state. Entering DOWN clears the
link and tells the four blocks. -/
def Obligations.LinkStateChanges : Prop :=
  ∀ s : State,
    let down : State := { s with
      link := { state := .down, trainRun := 0, badRun := 0, credit := 0, tx := none }
      mgmt := { s.mgmt with inbox := s.mgmt.inbox ++ [.linkLoss] }
      delivery := { s.delivery with inbox := s.delivery.inbox ++ [.linkLoss] }
      stream := { s.stream with inbox := s.stream.inbox ++ [.linkLoss] }
      alerts := { s.alerts with inbox := s.alerts.inbox ++ [.linkLoss] } }
    let put (l : LinkController) : State := { s with link := l }
    (s.link.state = .down → s.link.tx = none → exec .signalDetected s = .next (put { s.link with
      state := .training
      tx := some { frame := .train s.link.trainRun, source := .training, void := false } })) ∧
    (s.link.state ≠ .down → exec .signalDetected s = .next s) ∧
    exec .linkLossOfSignal s = .next (if s.link.state = .down then s else down) ∧
    exec .trainFrame s = .next (match s.link.state with
      | .down => s
      | .training => if s.link.trainRun + 1 = 3 then put { s.link with state := .up, trainRun := 0 }
          else put { s.link with trainRun := s.link.trainRun + 1 }
      | .up => put { s.link with badRun := 0 })

/-- R148, R150, R151: a REQUEST, a CREDIT and a bad frame, in every link state. A REQUEST whose length is none of the
seven is a bad frame. -/
def Obligations.ReceivedFrames : Prop :=
  ∀ s : State,
    let put (l : LinkController) : State := { s with link := l }
    let raises (a : List AlertSource) : AlertUnit := { s.alerts with raises := s.alerts.raises ++ a }
    let bad : State := match s.link.state with
      | .down => s
      | .training => put { s.link with trainRun := 0 }
      | .up => if s.link.badRun + 1 = 16 then { s with
          link := { state := .down, trainRun := 0, badRun := 0, credit := 0, tx := none }
          mgmt := { s.mgmt with inbox := s.mgmt.inbox ++ [.linkLoss] }
          delivery := { s.delivery with inbox := s.delivery.inbox ++ [.linkLoss] }
          stream := { s.stream with inbox := s.stream.inbox ++ [.linkLoss] }
          alerts := { raises [.linkProtocol] with inbox := s.alerts.inbox ++ [.linkLoss] } }
        else { s with
          link := { s.link with badRun := s.link.badRun + 1 }
          alerts := raises [.linkProtocol] }
    exec .badFrame s = .next bad ∧
    (∀ tag body, body.length ∉ [4, 6, 8, 10, 14, 16, 20] → exec (.requestFrame tag body) s = .next bad) ∧
    (∀ tag kind operand index options payload,
      let r : Request :=
        { tag := tag, kind := kind, operand := operand, index := index, options := options, payload := payload }
      payload.length + 4 ∈ [4, 6, 8, 10, 14, 16, 20] →
      exec (.requestFrame tag (kind :: operand :: index :: options :: payload)) s = .next (match s.link.state with
        | .down => s
        | .training => put { s.link with trainRun := 0 }
        | .up => { s with
          link := { s.link with badRun := 0 }
          mgmt := { s.mgmt with inbox := s.mgmt.inbox ++ [.request r] } })) ∧
    ∀ count, exec (.creditFrame count) s = .next (match s.link.state with
      | .down => s
      | .training => put { s.link with trainRun := 0 }
      | .up => arbitrate { s with
        link := { s.link with badRun := 0, credit := min 255 (s.link.credit + count.toNat) }
        alerts := raises (if 255 < s.link.credit + count.toNat then [.linkProtocol] else []) })

/-- R152, R162, R170, R106, R111, R120, R121, R137: the arbiter's start: the conditions, the winner by priority, and
what each source marks. While their source has a link loss still to take, replies (log entry 11, a reading), stream
frames (R121) and the END of a cut drain (R111) do not start; alerts and every other capture frame do, as R152 says,
though the loss will drop or offer them again (log entry 17, the model's choice). A started reply joins a list of the
replies in transmission (log entry 3, a reading). -/
def Obligations.ArbiterStartsByPriority : Prop :=
  ∀ s : State,
    let free := s.link.state = .up ∧ s.link.tx = none ∧ 1 ≤ s.link.credit
    let alertOffered := s.alerts.offer = .newAlert .offered ∨ s.alerts.offer = .repeatAlert .offered
    let endLost (d : Drain) :=
      (∃ o, d.position = .finish o) ∧ d.cut = true ∧ LinkReport.linkLoss ∈ s.delivery.inbox
    let captureOffered := ∃ d, s.delivery.drain = some d ∧ d.mark = .offered ∧ ¬endLost d
    let streamOffered := LinkReport.linkLoss ∉ s.stream.inbox ∧ s.stream.queue ≠ [] ∧ s.stream.headMark = .offered
    let busy (src : Source) (f : UpFrame) : LinkController := { s.link with
      credit := s.link.credit - 1
      tx := some { frame := f, source := src, void := false } }
    let noReply := s.mgmt.replies = [] ∨ LinkReport.linkLoss ∈ s.mgmt.inbox
    (¬free ∨ (noReply ∧ ¬alertOffered ∧ ¬captureOffered ∧ ¬streamOffered) → arbitrate s = s) ∧
    (free →
      (∀ r rest, s.mgmt.replies = r :: rest → LinkReport.linkLoss ∉ s.mgmt.inbox → arbitrate s = { s with
        link := busy .reply (.reply r)
        mgmt := { s.mgmt with replies := rest, inTransmission := s.mgmt.inTransmission ++ [r] } }) ∧
      (noReply → s.alerts.offer = .newAlert .offered →
        let sources := s.alerts.pending &&& s.mgmt.control.alerts
        arbitrate s = { s with
          link := busy .alert (.alert { sequence := s.alerts.sequence, repeatCount := 0, sources := sources })
          alerts := { s.alerts with offer := .newAlert .inTransmission, sent := sources, reRaised := 0 } }) ∧
      (∀ n, noReply → s.alerts.offer = .repeatAlert .offered → s.alerts.outstanding = some n →
        arbitrate s = { s with
          link := busy .alert
            (.alert { sequence := n, repeatCount := s.alerts.repeatCount, sources := s.alerts.reported })
          alerts := { s.alerts with offer := .repeatAlert .inTransmission } }) ∧
      (∀ d, noReply → ¬alertOffered → s.delivery.drain = some d → d.mark = .offered → ¬endLost d →
        arbitrate s = { s with
          link := busy .delivery (.capture d.frame)
          delivery := { s.delivery with drain := some { d with mark := .inTransmission } } }) ∧
      ∀ f rest, noReply → ¬alertOffered → ¬captureOffered → LinkReport.linkLoss ∉ s.stream.inbox →
        s.stream.queue = f :: rest →
        s.stream.headMark = .offered → arbitrate s = { s with
          link := busy .stream (.stream f)
          stream := { s.stream with headMark := .inTransmission } })

/-- R147, R153, R154: the end of a transmission: the completion goes to the source recorded with the frame, a TRAIN
frame's to none, and the next frame may start. With `sourceFirst` the capture or stream source, with nothing reported
before, takes its completion first, which R153 allows and the sender of the commands chooses (log entry 14, the model's
choice): what it does then is what CAPTURE_FRAME_COMPLETION and STREAM_FRAME_COMPLETION do, whose effects
`DrainAdvances` and `StreamReloadCompletionAndLoss` give. The mark handed on with the completion, that the source has
given the frame up, is log entry 3 (a reading). -/
def Obligations.TransmissionEnds : Prop :=
  (∀ (s : State) (void : Bool) (rest : List LinkReport),
     (s.delivery.inbox = .completion void :: rest →
       exec .captureFrameCompletion s = .next (arbitrate (takeCaptureCompletion s))) ∧
     (s.stream.inbox = .completion void :: rest →
       exec .streamFrameCompletion s = .next (arbitrate (takeStreamCompletion s)))) ∧
  ∀ (s : State) (t : Transmission), s.link.tx = some t →
    let idle : State := { s with link := { s.link with tx := none } }
    let report : LinkReport := .completion t.void
    let told : State := match t.source with
      | .training => idle
      | .reply => { idle with mgmt := { s.mgmt with inbox := s.mgmt.inbox ++ [report] } }
      | .alert => { idle with alerts := { s.alerts with inbox := s.alerts.inbox ++ [report] } }
      | .delivery => { idle with delivery := { s.delivery with inbox := s.delivery.inbox ++ [report] } }
      | .stream => { idle with stream := { s.stream with inbox := s.stream.inbox ++ [report] } }
    let next (u : State) : State := match s.link.state with
      | .down => u
      | .training => { u with link := { u.link with
          tx := some { frame := .train s.link.trainRun, source := .training, void := false } } }
      | .up => arbitrate u
    exec (.transmissionCompletion false) s = .next (next told) ∧
    exec (.transmissionCompletion true) s = .next (next (
      if t.source = .delivery ∧ s.delivery.inbox = [] then takeCaptureCompletion told
      else if t.source = .stream ∧ s.stream.inbox = [] then takeStreamCompletion told
      else told))

/-! ### Management requests (chapter 11) -/

/-- R158, R162, R170: an arrival, the completion of a reply, and a link loss at the Management Engine. That frames
sent before the loss no longer concern it is log entry 3; first, what it makes of the reports a block still has to take
when the block gives its frames up: a completion becomes void, a link loss and a request stay. -/
def Obligations.ManagementReports : Prop :=
  (LinkReport.linkLoss.voided = .linkLoss ∧ (∀ void, (LinkReport.completion void).voided = .completion true) ∧
    ∀ r, (LinkReport.request r).voided = .request r) ∧
  ∀ (s : State) (rest : List LinkReport),
    let m : ManagementEngine := { s.mgmt with inbox := rest }
    (∀ r, s.mgmt.inbox = .request r :: rest →
      (s.mgmt.unanswered < 8 → exec .requestArrival s = .next { s with
        mgmt := { m with requests := s.mgmt.requests ++ [r], unanswered := s.mgmt.unanswered + 1 } }) ∧
      (8 ≤ s.mgmt.unanswered → exec .requestArrival s = .next { s with
        mgmt := m, alerts := { s.alerts with raises := s.alerts.raises ++ [.linkProtocol] } })) ∧
    (∀ r later, s.mgmt.inbox = .completion false :: rest → s.mgmt.inTransmission = r :: later →
      exec .replyCompletion s = .next { s with
        mgmt := { m with inTransmission := later, unanswered := s.mgmt.unanswered - 1 } }) ∧
    (∀ void, s.mgmt.inbox = .completion void :: rest → void = true ∨ s.mgmt.inTransmission = [] →
      exec .replyCompletion s = .next { s with mgmt := m }) ∧
    (s.mgmt.inbox = .linkLoss :: rest → exec .linkLossManagement s = .next { s with
      link := { s.link with tx := s.link.tx.map fun t =>
        if t.source = .reply then { t with void := true } else t }
      mgmt := { s.mgmt with
        inbox := rest.map LinkReport.voided
        requests := []
        exec := .idle
        replies := []
        inTransmission := []
        deferred := none
        unanswered := 0 } })

/-- R159, R160, R167, R172, R173: the row that executes a request, by its kind byte and, for READ and WRITE, the code of
its table (Tables 11-2, 12-3 and 12-4); the content of every kind of reply in bytes, STATUS by Table 12-6; STATUS
reports each item of Table 11-6, the link state always UP, and a request of unknown kind is answered UNKNOWN-KIND;
neither changes anything else. -/
def Obligations.StatusAndUnknownKind : Prop :=
  let two (n : Nat) : List Nat := [n / 256 % 256, n % 256]
  let four (n : Nat) : List Nat := two (n / 65536) ++ two n
  let yes (b : Bool) : Nat := if b then 1 else 0
  let table (t : TableName) : Nat := match t with
    | .control => 0 | .channel => 1 | .channelRuntime => 2 | .level => 3 | .condition => 4 | .trigger => 5
    | .triggerRuntime => 6 | .unit => 7 | .unitStatus => 8 | .laneStatus => 9
  let answer (a : Option Answer) : Nat := match a with
    | none => 0 | some .started => 1 | some .truncated => 2 | some .retriggered => 3 | some .missed => 4
  let unit (u : UnitState) : Nat := match u with
    | .idle => 0 | .filling => 1 | .armed => 2 | .post => 3 | .held => 4 | .draining => 5 | .delivered => 6
  (∀ q : Request,
    (q.row = .read ↔ q.kind = 0x01#8 ∧ q.operand ≠ 0x02#8) ∧
    (q.row = .readChannelRuntime ↔ q.kind = 0x01#8 ∧ q.operand = 0x02#8) ∧
    (q.row = .write ↔ q.kind = 0x02#8 ∧ q.operand ∉ [0x00#8, 0x01#8, 0x03#8, 0x04#8, 0x05#8, 0x07#8]) ∧
    (q.row = .writeControl ↔ q.kind = 0x02#8 ∧ q.operand = 0x00#8) ∧
    (q.row = .writeChannel ↔ q.kind = 0x02#8 ∧ q.operand = 0x01#8) ∧
    (q.row = .writeLevel ↔ q.kind = 0x02#8 ∧ q.operand = 0x03#8) ∧
    (q.row = .writeCondition ↔ q.kind = 0x02#8 ∧ q.operand = 0x04#8) ∧
    (q.row = .writeTrigger ↔ q.kind = 0x02#8 ∧ q.operand = 0x05#8) ∧
    (q.row = .writeUnit ↔ q.kind = 0x02#8 ∧ q.operand = 0x07#8) ∧
    (q.row = .commit ↔ q.kind = 0x03#8) ∧ (q.row = .discardEdits ↔ q.kind = 0x04#8) ∧
    (q.row = .epochStart ↔ q.kind = 0x05#8) ∧ (q.row = .epochStop ↔ q.kind = 0x06#8) ∧
    (q.row = .arm ↔ q.kind = 0x07#8) ∧ (q.row = .abort ↔ q.kind = 0x08#8) ∧
    (q.row = .release ↔ q.kind = 0x09#8) ∧ (q.row = .replay ↔ q.kind = 0x0A#8) ∧
    (q.row = .fire ↔ q.kind = 0x0B#8) ∧ (q.row = .alertAck ↔ q.kind = 0x0C#8) ∧
    (q.row = .status ↔ q.kind = 0x0D#8) ∧ (q.row = .reset ↔ q.kind = 0x0E#8) ∧
    (q.row = .unknownKind ↔ q.kind = 0x00#8 ∨ 14 < q.kind.toNat)) ∧
  (∀ c : ReplyContent, c.bytes.map BitVec.toNat = match c with
    | .nothing => []
    | .read t i b e =>
      [table t, i.toNat, (match b with | .edit => 0 | .live => 1), 0] ++ e.bytes.map BitVec.toNat
    | .wrote t i => [table t, i.toNat]
    | .commit g e => two g.toNat ++ four e.toNat
    | .generation g => two g.toNat
    | .unit u => [u.val]
    | .fire t a e => [t.val, answer a] ++ four e.toNat
    | .acknowledged n => [n.toNat]
    | .voids n => [n % 256]
    | .status t =>
      [(match t.timer with | .stopped => 0 | .running => 1), yes t.lastClosed.isSome + 2 * yes t.outstanding.isSome] ++
        four (t.lastClosed.getD 0).toNat ++
        [unit t.units[0], unit t.units[1], unit t.units[2], unit t.units[3], t.drainQueue.length % 256] ++
        ((t.drainQueue.map fun (u : Fin 4) => u.val) ++ [0, 0, 0, 0]).take 4 ++
        [(match t.commit with | .none => 0 | .pending => 1)] ++ two t.generation.toNat ++
        [2, t.credit % 256, (match t.alert with | .quiet => 0 | .outstanding => 1), t.alertSequence.toNat,
          (t.outstanding.getD 0).toNat, t.otherUnanswered % 256]) ∧
  ∀ (s : State) (q : Request) (rest : List Request),
    (Executes .status q rest s → exec .status s = .next (arbitrate (replied q rest .ok (.status
      { timer := s.timer.state, lastClosed := s.timer.lastClosed
        units := Vector.ofFn fun u => s.capture.units[u].state
        drainQueue := s.capture.drainQueue, commit := s.conditions.commit, generation := s.conditions.generation
        link := .up, credit := s.link.credit, alert := s.alerts.state
        alertSequence := s.alerts.sequence, outstanding := s.alerts.outstanding
        otherUnanswered := s.mgmt.unanswered - 1 }) s))) ∧
    (Executes .unknownKind q rest s →
      exec .unknownKind s = .next (arbitrate (replied q rest .unknownKind .nothing s)))

/-- R168, R169: RESET keeps the void count and hands the soft reset to every block; it finishes when every block has
taken it, and not before. The marks on the replies that no longer concern the Management Engine are log entry 3, and
the counts that tell who has taken which reset log entry 2 (the model's choice). -/
def Obligations.ResetRequest : Prop :=
  ∀ (s : State) (q : Request) (rest : List Request),
    let taken := ∀ n ∈ [s.timer.resetsTaken, s.channels.resetsTaken, s.conditions.resetsTaken, s.capture.resetsTaken,
      s.delivery.resetsTaken, s.stream.resetsTaken, s.alerts.resetsTaken], n = s.mgmt.resetsIssued
    (Executes .reset q rest s → exec .reset s = .next (arbitrate { s with
      link := { s.link with tx := s.link.tx.map fun t =>
        if t.source = .reply then { t with void := true } else t }
      mgmt := { s.mgmt with
        inbox := s.mgmt.inbox.map LinkReport.voided
        requests := [q]
        exec := .awaitReset (s.mgmt.unanswered - 1)
        replies := []
        inTransmission := []
        deferred := none
        unanswered := 1
        resetsIssued := s.mgmt.resetsIssued + 1 } })) ∧
    ∀ n, s.mgmt.exec = .awaitReset n → s.mgmt.requests = q :: rest →
      (taken → exec .softResetDone s = .next (arbitrate (replied q rest .ok (.voids n) s))) ∧
      (¬taken → exec .softResetDone s = .next s)

/-- R18, R35, R71, R96, R113, R122, R124, R132, R143: the soft reset at each block that has not yet taken it. The
counts of resets and the runs of records are log entry 2 (the model's choice), the strobe tag that stays log entry 4
(the model's choice), the frames given up log entry 3, the reloads dropped log entry 6, the deferred reply of a
commit that the Condition Engine cancels log entry 9, and the commit that the Epoch Timer cancels because the Condition
Engine has already taken the reset log entry 16 (the model's choice). -/
def Obligations.SoftResetOfEachBlock : Prop :=
  ∀ s : State,
    let issued := s.mgmt.resetsIssued
    let keep (taken : Nat) (records : List Offered) := records.filter fun o => taken < o.run
    let link (src : Source) := { s.link with tx := s.link.tx.map fun t =>
      if t.source = src then { t with void := true } else t }
    let runtime : ChannelRuntime :=
      { previous := none, crossing := .unknown, cycleCount := 0, lastCrossing := none, lastPeriod := none,
        peakMax := none, peakMin := none }
    let unit : UnitRuntime :=
      { state := .idle, startEpoch := none, ring := [], record := none, postEnd := none, countFrom := none,
        crossings := 0, attempt := none }
    let dropped : ManagementEngine := { s.mgmt with
      deferred := none
      unanswered := s.mgmt.unanswered - if s.mgmt.deferred = none then 0 else 1 }
    (s.timer.resetsTaken < issued → exec .softResetEpochTimer s = .next { s with
      timer := { state := .stopped, nextEpoch := 0, openEpoch := none, participating := 0, lastClosed := none,
                 periodTimer := none, strobe := s.timer.strobe, resetsTaken := s.timer.resetsTaken + 1 }
      lanes := Vector.ofFn fun l => { s.lanes[l] with received := 0, wordsTaken := 0, lateWords := 0 }
      channels := { s.channels with openValues := Vector.replicate 16 none }
      conditions := if s.timer.resetsTaken < s.conditions.resetsTaken then { s.conditions with commit := .none }
        else s.conditions
      mgmt := if s.timer.resetsTaken < s.conditions.resetsTaken then dropped else s.mgmt }) ∧
    (s.channels.resetsTaken < issued → exec .softResetChannelProcessor s = .next { s with
      channels := { table := s.channels.table, openValues := Vector.replicate 16 none,
                    runtime := Vector.replicate 16 runtime, resetsTaken := s.channels.resetsTaken + 1 } }) ∧
    (s.conditions.resetsTaken < issued → exec .softResetConditionEngine s = .next { s with
      mgmt := dropped
      conditions := { edit := s.conditions.edit, live := s.conditions.live
                      triggers := Vector.replicate 8
                        { remaining := 0, fires := 0, suppressed := 0, missed := 0, lastFire := none }
                      commit := .none, generation := s.conditions.generation, nextWalk := 0
                      records := keep s.conditions.resetsTaken s.conditions.records, answers := []
                      resetsTaken := s.conditions.resetsTaken + 1 }
      capture := { s.capture with fires := [] } }) ∧
    (s.capture.resetsTaken < issued → exec .softResetCaptureController s = .next { s with
      capture := { configs := s.capture.configs, units := Vector.replicate 4 unit, number := 0, nextRecord := 0,
                   drainQueue := [], records := keep s.capture.resetsTaken s.capture.records, fires := [],
                   resetsTaken := s.capture.resetsTaken + 1 } }) ∧
    (s.delivery.resetsTaken < issued → exec .softResetDeliveryEngine s = .next { s with
      link := link .delivery
      delivery := { drain := none, inbox := s.delivery.inbox.map LinkReport.voided,
                    resetsTaken := s.delivery.resetsTaken + 1 } }) ∧
    (s.stream.resetsTaken < issued → exec .softResetStreamForwarder s = .next { s with
      link := link .stream
      stream := { counters := Vector.ofFn fun c => s.channels.table[c].divisor
                  queue := [], headMark := .offered, sequence := 0, gapCount := 0
                  records := keep s.stream.resetsTaken s.stream.records, reloads := []
                  inbox := s.stream.inbox.map LinkReport.voided, resetsTaken := s.stream.resetsTaken + 1 } }) ∧
    (s.alerts.resetsTaken < issued → exec .softResetAlertUnit s = .next { s with
      link := link .alert
      alerts := { pending := 0, reported := 0, state := .quiet, sequence := 0, outstanding := none, repeatCount := 0,
                  timerRunning := false, offer := .none, sent := 0, reRaised := 0, raises := s.alerts.raises,
                  inbox := s.alerts.inbox.map LinkReport.voided, resetsTaken := s.alerts.resetsTaken + 1 } })

/-! ### Byte layouts (chapter 12) -/

/-- R176: a lane symbol whose check passes is a mark or a word by bit 7 of its first byte; a word carries its tag in
bits 6 to 3, its slot in bits 2 to 0 and its raw value in the next two bytes; the other bits of a mark are not looked
at. A symbol whose check fails is a bad symbol. -/
def Obligations.LaneSymbolLayout : Prop :=
  ∀ (l : Fin 4) (b0 b1 b2 b3 : Byte),
    (laneCheck [b0, b1, b2] ≠ b3 → laneSymbol l b0 b1 b2 b3 = .badSymbol l) ∧
    (laneCheck [b0, b1, b2] = b3 → 128 ≤ b0.toNat → laneSymbol l b0 b1 b2 b3 = .alignmentMark l) ∧
    (laneCheck [b0, b1, b2] = b3 → b0.toNat < 128 → ∃ tag slot raw, laneSymbol l b0 b1 b2 b3 = .laneWord l tag slot raw ∧
      tag.toNat = b0.toNat / 8 ∧ slot.val = b0.toNat % 8 ∧ raw.toNat = 256 * b1.toNat + b2.toNat)

/-- R176, R177: a lane word sent as four bytes is received as that word, whatever its tag, slot and raw value. The check
of a lane symbol starts at 00h and takes the bits most significant first, each by one step of the division by
x^8 + x^2 + x + 1; bytes followed by their check divide without remainder. -/
def Obligations.LaneWordRoundTrip : Prop :=
  let step (c : BitVec 8) (bit : Bool) : BitVec 8 := if c.getLsbD 7 = bit then c <<< 1 else (c <<< 1) ^^^ 0x07#8
  (laneCheck [] = 0x00#8 ∧ ∀ (bytes : List Byte) (b : Byte),
    laneCheck (bytes ++ [b]) = [b.getLsbD 7, b.getLsbD 6, b.getLsbD 5, b.getLsbD 4, b.getLsbD 3, b.getLsbD 2,
      b.getLsbD 1, b.getLsbD 0].foldl step (laneCheck bytes)) ∧
  (∀ bytes : List Byte, laneCheck (bytes ++ [laneCheck bytes]) = 0) ∧
  ∀ (l : Fin 4) (tag : BitVec 4) (slot : Fin 8) (raw : BitVec 16),
    ∃ b0 b1 b2 b3, laneWordBytes tag slot raw = [b0, b1, b2, b3] ∧ laneSymbol l b0 b1 b2 b3 = .laneWord l tag slot raw

/-- R150, R171 to R174, Tables 12-1 and 12-2: what a received frame of header, body and check is: a TRAIN with four
body bytes, a REQUEST with one of the seven lengths, a CREDIT with two, whose count is the first, whatever the reserved
bytes hold; any other kind or length, a wrong check, or a length field that disagrees with the bytes received, is a bad
frame. The frame check starts at FFFFh and takes the bits most significant first, each by one step of the division by
x^16 + x^12 + x^5 + 1; bytes followed by their check divide without remainder. Then the bytes of every frame the part
sends: kind, header byte 1, length, body, check, and the body of TRAIN, REPLY, ALERT, the three capture frames and
STREAM. The contents of a reply are given by `StatusAndUnknownKind`, the bits of the alert sources by
`RaiseAndAlertCompletion` and the capture record block by `EntriesReadBackAsWritten`. -/
def Obligations.RequestFrameRoundTrip : Prop :=
  let step (c : BitVec 16) (bit : Bool) : BitVec 16 :=
    if c.getLsbD 15 = bit then c <<< 1 else (c <<< 1) ^^^ 0x1021#16
  let two (n : Nat) : List Nat := [n / 256 % 256, n % 256]
  let four (n : Nat) : List Nat := two (n / 65536) ++ two n
  let status (t : Status) : Nat := match t with
    | .ok => 0 | .busy => 1 | .badIndex => 2 | .badValue => 3 | .badTable => 4 | .readOnly => 5 | .overlap => 6
    | .wrongState => 7 | .stale => 8 | .unknownKind => 9
  let set (p : Fin 16 → Bool) : List Nat := two (BitVec.ofFnLE p).toNat
  let valued (v : List (Fin 16 × Option Value)) (c : Fin 16) : Bool := v.any fun x => x.1 = c ∧ x.2 ≠ none
  let values (v : List (Fin 16 × Option Value)) : List Nat := v.flatMap fun x => two (x.2.getD 0).toNat
  let slot (t : Slot) : List Nat :=
    four t.epoch.toNat ++ [if t.mark then 1 else 0, 0] ++ set (valued t.values) ++ values t.values
  let sent (f : UpFrame) (kind byte1 : Nat) (body : List Nat) : Prop :=
    let checked := [kind, byte1] ++ two body.length ++ body
    f.bytes.map BitVec.toNat = checked ++ two (frameCheck (checked.map (BitVec.ofNat 8))).toNat
  (frameCheck [] = 0xFFFF#16 ∧ ∀ (bytes : List Byte) (b : Byte),
    frameCheck (bytes ++ [b]) = [b.getLsbD 7, b.getLsbD 6, b.getLsbD 5, b.getLsbD 4, b.getLsbD 3, b.getLsbD 2,
      b.getLsbD 1, b.getLsbD 0].foldl step (frameCheck bytes)) ∧
  (∀ bytes : List Byte, frameCheck (bytes ++ bytes16 (frameCheck bytes)) = 0) ∧
  (∀ (kind tag : Byte) (body : List Byte) (c1 c0 : Byte), body.length < 65536 →
    let head : List Byte := [kind, tag] ++ countBytes body.length
    let received := downstreamFrame (head ++ body ++ [c1, c0])
    let train := kind = 0x01#8 ∧ body.length = 4
    let request := kind = 0x02#8 ∧ body.length ∈ [4, 6, 8, 10, 14, 16, 20]
    let credit := kind = 0x03#8 ∧ body.length = 2
    (bytes16 (frameCheck (head ++ body)) ≠ [c1, c0] → received = .badFrame) ∧
    (bytes16 (frameCheck (head ++ body)) = [c1, c0] →
      (train → received = .trainFrame) ∧ (request → received = .requestFrame tag body) ∧
      (∀ count reserved, credit → body = [count, reserved] → received = .creditFrame count) ∧
      (¬train → ¬request → ¬credit → received = .badFrame))) ∧
  (∀ kind tag l1 l0 rest, rest.length ≠ 256 * l1.toNat + l0.toNat + 2 →
    downstreamFrame (kind :: tag :: l1 :: l0 :: rest) = .badFrame) ∧
  (∀ bytes : List Byte, bytes.length < 6 → downstreamFrame bytes = .badFrame) ∧
  (∀ run, sent (.train run) 0x81 (run % 256) [0, 0, 0, 0]) ∧
  (∀ r : Reply, sent (.reply r) 0x82 r.tag.toNat
    ([r.kind.toNat, status r.status] ++ r.content.bytes.map BitVec.toNat)) ∧
  (∀ a : AlertFrame, sent (.alert a) 0x83 a.sequence.toNat [a.repeatCount % 256, a.sources.toNat]) ∧
  (∀ (r : CaptureRecord) (attempt : Nat) (mode : PostMode), sent (.capture (.header r attempt mode)) 0x84 0
    (r.bytes.map BitVec.toNat ++ [attempt % 256, match mode with | .epochs => 0 | .cycles => 1])) ∧
  (∀ (number : BitVec 16) (u : Fin 4) (index : Nat) (slots : List Slot),
    sent (.capture (.segment number u index slots)) 0x85 0
      (two number.toNat ++ two index ++ [u.val, slots.length % 256] ++ slots.flatMap slot)) ∧
  (∀ (number : BitVec 16) (u : Fin 4) (segments : Nat) (outcome : EndOutcome),
    sent (.capture (.finish number u segments outcome)) 0x86 0
      (two number.toNat ++ [u.val, match outcome with | .complete => 0 | .aborted => 1] ++ two segments)) ∧
  ∀ f : StreamFrame, sent (.stream f) 0x87 0
    (four f.epoch.toNat ++ two f.sequence.toNat ++ two f.gapCount ++ set (fun c => f.values.any fun x => x.1 = c) ++
      set (valued f.values) ++ values f.values)

/-- R171, R175, Tables 12-7 and 12-8: the bytes of an entry of each of the ten tables, and of the capture record block;
every writable entry within its values is read back from its layout exactly as it was; and reserved bits and bytes of a
received entry are not examined. -/
def Obligations.EntriesReadBackAsWritten : Prop :=
  let two (n : Nat) : List Nat := [n / 256 % 256, n % 256]
  let four (n : Nat) : List Nat := two (n / 65536) ++ two n
  let yes (b : Bool) : Nat := if b then 1 else 0
  let opt16 (v : Option (BitVec 16)) : List Nat := two (v.getD 0).toNat
  let opt32 (v : Option (BitVec 32)) : List Nat := four (v.getD 0).toNat
  let action (a : Action) : List Nat := match a with
    | .next => [0, 0] | .skip k => [1, k.val] | .fire t => [2, t.val] | .fireEnd t => [3, t.val] | .endWalk => [4, 0]
  let block (r : CaptureRecord) : List Nat :=
    two r.number.toNat ++
      [r.unit.val, r.trigger.val,
        yes r.forced + 2 * yes r.truncated + 4 * yes (match r.settled with | none => false | some f => f.gaps),
        match r.settled with
        | none => 0
        | some f => match f.endReason with | .complete => 1 | .cycleTimeout => 2 | .depthLimit => 3] ++
      four r.triggerEpoch.toNat ++ two r.generation.toNat ++ two r.mask.toNat ++ two r.preActual ++
      two (match r.settled with | none => 0 | some f => f.postActual) ++ [r.retriggers % 256, 0]
  (∀ r : CaptureRecord, r.bytes.map BitVec.toNat = block r) ∧
  (∀ e : TableEntry, e.bytes.map BitVec.toNat = match e with
    | .control r => two r.period.toNat ++ [r.lanes.toNat, r.alerts.toNat, yes r.streamEnable, 0]
    | .channel e =>
      [yes e.enabled + 2 * yes e.invert + 4 * yes e.forward, 16 * e.lane.val + e.slot.val,
        (match e.coding with | .bipolar => 0 | .unipolar => 1),
        match e.direction with | .rising => 0 | .falling => 1 | .both => 2] ++
        two e.offset.toNat ++ two e.level.toNat ++ two e.hysteresis ++ two e.divisor
    | .channelRuntime r =>
      [yes r.previous.isSome + 2 * yes r.lastCrossing.isSome + 4 * yes r.lastPeriod.isSome + 8 * yes r.peakMax.isSome +
          16 * yes r.peakMin.isSome,
        match r.crossing with | .unknown => 0 | .above => 1 | .below => 2] ++
        opt16 r.previous ++ two r.cycleCount.toNat ++ opt32 r.lastCrossing ++ opt32 r.lastPeriod ++ opt16 r.peakMax ++
        opt16 r.peakMin
    | .level v => two v.toNat
    | .condition e =>
      [yes e.inUse,
        (match e.test with
          | .above => 0 | .below => 1 | .inside => 2 | .outside => 3 | .crossed => 4 | .rise => 5 | .fall => 6
          | .absent => 7),
        e.channel.val, e.levelA.val, e.levelB.val] ++ action e.onTrue ++ action e.onFalse ++ [0]
    | .trigger e => [(match e.target with | none => 255 | some u => u.val), 0] ++ two e.holdOff
    | .triggerRuntime r =>
      [yes r.lastFire.isSome, 0] ++ two r.remaining ++ two r.fires ++ two r.suppressed ++ two r.missed ++
        opt32 r.lastFire
    | .unit c =>
      [yes c.inUse, c.firstBlock % 256, c.blockCount % 256, (match c.postMode with | .epochs => 0 | .cycles => 1)] ++
        two c.mask.toNat ++ two c.pre ++ two c.postLength ++ two c.guard ++
        [c.reference.val, (match c.retrigger with | .ignore => 0 | .extend => 1),
          (match c.handOff with | .auto => 0 | .retain => 1), match c.afterRelease with | .oneShot => 0 | .rearm => 1]
    | .unitStatus u =>
      [(match u.state with
          | .idle => 0 | .filling => 1 | .armed => 2 | .post => 3 | .held => 4 | .draining => 5 | .delivered => 6),
        yes u.startEpoch.isSome + 2 * yes u.oldest.isSome + 4 * yes u.record.isSome + 8 * yes u.postEnd.isSome +
          16 * yes u.countFrom.isSome + 32 * yes u.attempt.isSome] ++
        two u.slotCount ++ opt32 u.startEpoch ++ opt32 u.oldest ++ opt32 u.newest ++ opt32 u.postEnd ++
        opt32 u.countFrom ++ [u.crossings % 256, u.attempt.getD 0 % 256] ++
        (match u.record with | none => List.replicate 20 0 | some r => block r)
    | .laneStatus l =>
      [(match l.state with | .off => 0 | .seeking => 1 | .locked => 2), l.goodRun % 256, l.badRun % 256, 0] ++
        two l.wordsTaken ++ two l.lateWords) ∧
  ((∀ r : ControlRecord, 10 ≤ r.period.toNat → controlOf r.bytes = some r) ∧
   (∀ e : ChannelEntry, e.hysteresis ≤ 4095 → 1 ≤ e.divisor → e.divisor ≤ 256 → channelOf e.bytes = some e) ∧
   (∀ v : Value, levelOf (bytes16 v) = some v) ∧
   (∀ e : ConditionEntry, e.onTrue ≠ .skip 0 → e.onFalse ≠ .skip 0 → conditionOf e.bytes = some e) ∧
   (∀ e : TriggerEntry, e.holdOff ≤ 65535 → triggerOf e.bytes = some e) ∧
   (∀ c : UnitConfig, c.firstBlock ≤ 63 → c.blockCount ≤ 64 → c.pre ≤ 4095 → c.postLength ≤ 4095 → c.guard ≤ 4095 →
     (c.inUse = true → c.usable = true) → unitOf c.bytes = some c)) ∧
  let operand (k v w : Byte) : Prop := v = w ∨ (k = 1 ∧ v.toNat % 16 = w.toNat % 16) ∨ k = 0 ∨ k = 4
  (∀ p1 p0 l m a b o q x y : Byte, l.toNat % 16 = m.toNat % 16 → a.toNat % 128 = b.toNat % 128 →
     o.toNat % 2 = q.toNat % 2 → controlOf [p1, p0, l, a, o, x] = controlOf [p1, p0, m, b, q, y]) ∧
  (∀ (f g : Byte) (rest : List Byte), f.toNat % 8 = g.toNat % 8 → channelOf (f :: rest) = channelOf (g :: rest)) ∧
  (∀ f g test ch a b k1 v1 w1 k2 v2 w2 x y : Byte, f.toNat % 2 = g.toNat % 2 → operand k1 v1 w1 → operand k2 v2 w2 →
     conditionOf [f, test, ch, a, b, k1, v1, k2, v2, x] = conditionOf [g, test, ch, a, b, k1, w1, k2, w2, y]) ∧
  (∀ t x y h1 h0 : Byte, triggerOf [t, x, h1, h0] = triggerOf [t, y, h1, h0]) ∧
  ∀ (f g : Byte) (rest : List Byte), f.toNat % 2 = g.toNat % 2 → unitOf (f :: rest) = unitOf (g :: rest)

/-! ### What every command keeps -/

/-- Every block is sound after reset. -/
def Obligations.ResetIsSound : Prop := Sound State.reset ∧ RegionsDisjoint State.reset

/-- R163: every step keeps U equal to the requests and replies it counts, and at most 8. The replies in transmission are
counted as a list, log entry 3 (a reading), and the deferred reply of a commit that a soft reset cancels is no longer
counted, log entries 9 and 16. -/
def Obligations.StepKeepsRequestsSound : Prop :=
  ∀ s t : State, RequestsSound s → step s = .next t → RequestsSound t

/-- R144 to R151: every step keeps the link sound: credit within 0..255, nothing on the link in DOWN, a TRAIN frame
always under way in TRAINING. -/
def Obligations.StepKeepsLinkSound : Prop :=
  ∀ s t : State, s.link.Sound → step s = .next t → t.link.Sound

/-- R135 to R142: every step keeps the Alert Unit sound: at most one alert outstanding, nothing reported in QUIET,
and no enabled pending source left without an offer. -/
def Obligations.StepKeepsAlertsSound : Prop :=
  ∀ s t : State, s.alerts.Sound s.mgmt.control.alerts → step s = .next t → t.alerts.Sound t.mgmt.control.alerts

/-- R114, R118: every step keeps the stream queue within 16 frames of consecutive sequence numbers. -/
def Obligations.StepKeepsStreamSound : Prop :=
  ∀ s t : State, s.stream.Sound → step s = .next t → t.stream.Sound

/-- R1, R6, R7, R9, R23, R124: every step keeps the Epoch Timer, the lanes and the open values in agreement: an open
epoch always awaits a word, and nothing is kept of one that is closed. A commit is pending only while the timer is
RUNNING, or until the Condition Engine takes a soft reset the timer has taken (log entry 16, the model's choice, for a commit
between the two blocks' soft resets). -/
def Obligations.StepKeepsEpochsSound : Prop :=
  ∀ s t : State, EpochsSound s → step s = .next t → EpochsSound t

/-- R76, R98: every step keeps the drain queue exactly the HELD units, and the one DRAINING unit the Delivery
Engine's. -/
def Obligations.StepKeepsCaptureSound : Prop :=
  ∀ s t : State, CaptureSound s → step s = .next t → CaptureSound t

/-- R80: no step makes the regions of two units outside IDLE overlap, where the units and the drain agree as
`StepKeepsCaptureSound` says they always do. -/
def Obligations.StepKeepsRegionsDisjoint : Prop :=
  ∀ s t : State, CaptureSound s → RegionsDisjoint s → step s = .next t → RegionsDisjoint t

/-- R123, R127: whatever the command but a cold reset, the LIVE banks and the generation stay as they are, or a swap
has made EDIT LIVE, raised the generation by 1 and left no commit pending. -/
def Obligations.BanksChangeOnlyBySwap : Prop :=
  ∀ (c : Instr) (s t : State), c ≠ .coldReset → exec c s = .next t →
    (t.conditions.live = s.conditions.live ∧ t.conditions.generation = s.conditions.generation) ∨
    (t.conditions.live = s.conditions.edit ∧ t.conditions.edit = s.conditions.edit ∧
      t.conditions.generation = s.conditions.generation + 1 ∧ t.conditions.commit = .none)

/-- R22, R73, R74: while a unit is outside IDLE, no command but a cold reset changes its configuration or the entry
of a channel it uses. -/
def Obligations.ProtectedEntriesStay : Prop :=
  ∀ (c : Instr) (s t : State) (u : Fin 4), c ≠ .coldReset → exec c s = .next t → s.capture.units[u].state ≠ .idle →
    t.capture.configs[u] = s.capture.configs[u] ∧
    ∀ ch : Fin 16, (has s.capture.configs[u].mask ch = true ∨
        (s.capture.configs[u].postMode = .cycles ∧ s.capture.configs[u].reference = ch)) →
      t.channels.table[ch] = s.channels.table[ch]
end

