-- ==== Sys2Proof/Laws/State.lean ====
section
/-! SUPPORT. What each update of one block leaves in every block, so that no later proof unfolds a record update. -/

namespace Sys2Proof.Machine.State

variable (s : State)

@[simp] theorem setTimer_timer (x : EpochTimer) : (s.setTimer x).timer = x := rfl
@[simp] theorem setTimer_lanes (x : EpochTimer) : (s.setTimer x).lanes = s.lanes := rfl
@[simp] theorem setTimer_channels (x : EpochTimer) : (s.setTimer x).channels = s.channels := rfl
@[simp] theorem setTimer_conditions (x : EpochTimer) : (s.setTimer x).conditions = s.conditions := rfl
@[simp] theorem setTimer_capture (x : EpochTimer) : (s.setTimer x).capture = s.capture := rfl
@[simp] theorem setTimer_delivery (x : EpochTimer) : (s.setTimer x).delivery = s.delivery := rfl
@[simp] theorem setTimer_stream (x : EpochTimer) : (s.setTimer x).stream = s.stream := rfl
@[simp] theorem setTimer_alerts (x : EpochTimer) : (s.setTimer x).alerts = s.alerts := rfl
@[simp] theorem setTimer_link (x : EpochTimer) : (s.setTimer x).link = s.link := rfl
@[simp] theorem setTimer_mgmt (x : EpochTimer) : (s.setTimer x).mgmt = s.mgmt := rfl
@[simp] theorem setTimer_pending (x : EpochTimer) : (s.setTimer x).pending = s.pending := rfl
@[simp] theorem setTimer_self : s.setTimer s.timer = s := rfl
@[simp] theorem setTimer_setTimer (x y : EpochTimer) : (s.setTimer x).setTimer y = s.setTimer y := rfl

@[simp] theorem setLanes_timer (x : Table Lane 4) : (s.setLanes x).timer = s.timer := rfl
@[simp] theorem setLanes_lanes (x : Table Lane 4) : (s.setLanes x).lanes = x := rfl
@[simp] theorem setLanes_channels (x : Table Lane 4) : (s.setLanes x).channels = s.channels := rfl
@[simp] theorem setLanes_conditions (x : Table Lane 4) : (s.setLanes x).conditions = s.conditions := rfl
@[simp] theorem setLanes_capture (x : Table Lane 4) : (s.setLanes x).capture = s.capture := rfl
@[simp] theorem setLanes_delivery (x : Table Lane 4) : (s.setLanes x).delivery = s.delivery := rfl
@[simp] theorem setLanes_stream (x : Table Lane 4) : (s.setLanes x).stream = s.stream := rfl
@[simp] theorem setLanes_alerts (x : Table Lane 4) : (s.setLanes x).alerts = s.alerts := rfl
@[simp] theorem setLanes_link (x : Table Lane 4) : (s.setLanes x).link = s.link := rfl
@[simp] theorem setLanes_mgmt (x : Table Lane 4) : (s.setLanes x).mgmt = s.mgmt := rfl
@[simp] theorem setLanes_pending (x : Table Lane 4) : (s.setLanes x).pending = s.pending := rfl
@[simp] theorem setLanes_self : s.setLanes s.lanes = s := rfl
@[simp] theorem setLanes_setLanes (x y : Table Lane 4) : (s.setLanes x).setLanes y = s.setLanes y := rfl

@[simp] theorem setChannels_timer (x : ChannelProcessor) : (s.setChannels x).timer = s.timer := rfl
@[simp] theorem setChannels_lanes (x : ChannelProcessor) : (s.setChannels x).lanes = s.lanes := rfl
@[simp] theorem setChannels_channels (x : ChannelProcessor) : (s.setChannels x).channels = x := rfl
@[simp] theorem setChannels_conditions (x : ChannelProcessor) : (s.setChannels x).conditions = s.conditions := rfl
@[simp] theorem setChannels_capture (x : ChannelProcessor) : (s.setChannels x).capture = s.capture := rfl
@[simp] theorem setChannels_delivery (x : ChannelProcessor) : (s.setChannels x).delivery = s.delivery := rfl
@[simp] theorem setChannels_stream (x : ChannelProcessor) : (s.setChannels x).stream = s.stream := rfl
@[simp] theorem setChannels_alerts (x : ChannelProcessor) : (s.setChannels x).alerts = s.alerts := rfl
@[simp] theorem setChannels_link (x : ChannelProcessor) : (s.setChannels x).link = s.link := rfl
@[simp] theorem setChannels_mgmt (x : ChannelProcessor) : (s.setChannels x).mgmt = s.mgmt := rfl
@[simp] theorem setChannels_pending (x : ChannelProcessor) : (s.setChannels x).pending = s.pending := rfl
@[simp] theorem setChannels_self : s.setChannels s.channels = s := rfl
@[simp] theorem setChannels_setChannels (x y : ChannelProcessor) : (s.setChannels x).setChannels y = s.setChannels y := rfl

@[simp] theorem setConditions_timer (x : ConditionEngine) : (s.setConditions x).timer = s.timer := rfl
@[simp] theorem setConditions_lanes (x : ConditionEngine) : (s.setConditions x).lanes = s.lanes := rfl
@[simp] theorem setConditions_channels (x : ConditionEngine) : (s.setConditions x).channels = s.channels := rfl
@[simp] theorem setConditions_conditions (x : ConditionEngine) : (s.setConditions x).conditions = x := rfl
@[simp] theorem setConditions_capture (x : ConditionEngine) : (s.setConditions x).capture = s.capture := rfl
@[simp] theorem setConditions_delivery (x : ConditionEngine) : (s.setConditions x).delivery = s.delivery := rfl
@[simp] theorem setConditions_stream (x : ConditionEngine) : (s.setConditions x).stream = s.stream := rfl
@[simp] theorem setConditions_alerts (x : ConditionEngine) : (s.setConditions x).alerts = s.alerts := rfl
@[simp] theorem setConditions_link (x : ConditionEngine) : (s.setConditions x).link = s.link := rfl
@[simp] theorem setConditions_mgmt (x : ConditionEngine) : (s.setConditions x).mgmt = s.mgmt := rfl
@[simp] theorem setConditions_pending (x : ConditionEngine) : (s.setConditions x).pending = s.pending := rfl
@[simp] theorem setConditions_self : s.setConditions s.conditions = s := rfl
@[simp] theorem setConditions_setConditions (x y : ConditionEngine) : (s.setConditions x).setConditions y = s.setConditions y := rfl

@[simp] theorem setCapture_timer (x : CaptureController) : (s.setCapture x).timer = s.timer := rfl
@[simp] theorem setCapture_lanes (x : CaptureController) : (s.setCapture x).lanes = s.lanes := rfl
@[simp] theorem setCapture_channels (x : CaptureController) : (s.setCapture x).channels = s.channels := rfl
@[simp] theorem setCapture_conditions (x : CaptureController) : (s.setCapture x).conditions = s.conditions := rfl
@[simp] theorem setCapture_capture (x : CaptureController) : (s.setCapture x).capture = x := rfl
@[simp] theorem setCapture_delivery (x : CaptureController) : (s.setCapture x).delivery = s.delivery := rfl
@[simp] theorem setCapture_stream (x : CaptureController) : (s.setCapture x).stream = s.stream := rfl
@[simp] theorem setCapture_alerts (x : CaptureController) : (s.setCapture x).alerts = s.alerts := rfl
@[simp] theorem setCapture_link (x : CaptureController) : (s.setCapture x).link = s.link := rfl
@[simp] theorem setCapture_mgmt (x : CaptureController) : (s.setCapture x).mgmt = s.mgmt := rfl
@[simp] theorem setCapture_pending (x : CaptureController) : (s.setCapture x).pending = s.pending := rfl
@[simp] theorem setCapture_self : s.setCapture s.capture = s := rfl
@[simp] theorem setCapture_setCapture (x y : CaptureController) : (s.setCapture x).setCapture y = s.setCapture y := rfl

@[simp] theorem setDelivery_timer (x : DeliveryEngine) : (s.setDelivery x).timer = s.timer := rfl
@[simp] theorem setDelivery_lanes (x : DeliveryEngine) : (s.setDelivery x).lanes = s.lanes := rfl
@[simp] theorem setDelivery_channels (x : DeliveryEngine) : (s.setDelivery x).channels = s.channels := rfl
@[simp] theorem setDelivery_conditions (x : DeliveryEngine) : (s.setDelivery x).conditions = s.conditions := rfl
@[simp] theorem setDelivery_capture (x : DeliveryEngine) : (s.setDelivery x).capture = s.capture := rfl
@[simp] theorem setDelivery_delivery (x : DeliveryEngine) : (s.setDelivery x).delivery = x := rfl
@[simp] theorem setDelivery_stream (x : DeliveryEngine) : (s.setDelivery x).stream = s.stream := rfl
@[simp] theorem setDelivery_alerts (x : DeliveryEngine) : (s.setDelivery x).alerts = s.alerts := rfl
@[simp] theorem setDelivery_link (x : DeliveryEngine) : (s.setDelivery x).link = s.link := rfl
@[simp] theorem setDelivery_mgmt (x : DeliveryEngine) : (s.setDelivery x).mgmt = s.mgmt := rfl
@[simp] theorem setDelivery_pending (x : DeliveryEngine) : (s.setDelivery x).pending = s.pending := rfl
@[simp] theorem setDelivery_self : s.setDelivery s.delivery = s := rfl
@[simp] theorem setDelivery_setDelivery (x y : DeliveryEngine) : (s.setDelivery x).setDelivery y = s.setDelivery y := rfl

@[simp] theorem setStream_timer (x : StreamForwarder) : (s.setStream x).timer = s.timer := rfl
@[simp] theorem setStream_lanes (x : StreamForwarder) : (s.setStream x).lanes = s.lanes := rfl
@[simp] theorem setStream_channels (x : StreamForwarder) : (s.setStream x).channels = s.channels := rfl
@[simp] theorem setStream_conditions (x : StreamForwarder) : (s.setStream x).conditions = s.conditions := rfl
@[simp] theorem setStream_capture (x : StreamForwarder) : (s.setStream x).capture = s.capture := rfl
@[simp] theorem setStream_delivery (x : StreamForwarder) : (s.setStream x).delivery = s.delivery := rfl
@[simp] theorem setStream_stream (x : StreamForwarder) : (s.setStream x).stream = x := rfl
@[simp] theorem setStream_alerts (x : StreamForwarder) : (s.setStream x).alerts = s.alerts := rfl
@[simp] theorem setStream_link (x : StreamForwarder) : (s.setStream x).link = s.link := rfl
@[simp] theorem setStream_mgmt (x : StreamForwarder) : (s.setStream x).mgmt = s.mgmt := rfl
@[simp] theorem setStream_pending (x : StreamForwarder) : (s.setStream x).pending = s.pending := rfl
@[simp] theorem setStream_self : s.setStream s.stream = s := rfl
@[simp] theorem setStream_setStream (x y : StreamForwarder) : (s.setStream x).setStream y = s.setStream y := rfl

@[simp] theorem setAlerts_timer (x : AlertUnit) : (s.setAlerts x).timer = s.timer := rfl
@[simp] theorem setAlerts_lanes (x : AlertUnit) : (s.setAlerts x).lanes = s.lanes := rfl
@[simp] theorem setAlerts_channels (x : AlertUnit) : (s.setAlerts x).channels = s.channels := rfl
@[simp] theorem setAlerts_conditions (x : AlertUnit) : (s.setAlerts x).conditions = s.conditions := rfl
@[simp] theorem setAlerts_capture (x : AlertUnit) : (s.setAlerts x).capture = s.capture := rfl
@[simp] theorem setAlerts_delivery (x : AlertUnit) : (s.setAlerts x).delivery = s.delivery := rfl
@[simp] theorem setAlerts_stream (x : AlertUnit) : (s.setAlerts x).stream = s.stream := rfl
@[simp] theorem setAlerts_alerts (x : AlertUnit) : (s.setAlerts x).alerts = x := rfl
@[simp] theorem setAlerts_link (x : AlertUnit) : (s.setAlerts x).link = s.link := rfl
@[simp] theorem setAlerts_mgmt (x : AlertUnit) : (s.setAlerts x).mgmt = s.mgmt := rfl
@[simp] theorem setAlerts_pending (x : AlertUnit) : (s.setAlerts x).pending = s.pending := rfl
@[simp] theorem setAlerts_self : s.setAlerts s.alerts = s := rfl
@[simp] theorem setAlerts_setAlerts (x y : AlertUnit) : (s.setAlerts x).setAlerts y = s.setAlerts y := rfl

@[simp] theorem setLink_timer (x : LinkController) : (s.setLink x).timer = s.timer := rfl
@[simp] theorem setLink_lanes (x : LinkController) : (s.setLink x).lanes = s.lanes := rfl
@[simp] theorem setLink_channels (x : LinkController) : (s.setLink x).channels = s.channels := rfl
@[simp] theorem setLink_conditions (x : LinkController) : (s.setLink x).conditions = s.conditions := rfl
@[simp] theorem setLink_capture (x : LinkController) : (s.setLink x).capture = s.capture := rfl
@[simp] theorem setLink_delivery (x : LinkController) : (s.setLink x).delivery = s.delivery := rfl
@[simp] theorem setLink_stream (x : LinkController) : (s.setLink x).stream = s.stream := rfl
@[simp] theorem setLink_alerts (x : LinkController) : (s.setLink x).alerts = s.alerts := rfl
@[simp] theorem setLink_link (x : LinkController) : (s.setLink x).link = x := rfl
@[simp] theorem setLink_mgmt (x : LinkController) : (s.setLink x).mgmt = s.mgmt := rfl
@[simp] theorem setLink_pending (x : LinkController) : (s.setLink x).pending = s.pending := rfl
@[simp] theorem setLink_self : s.setLink s.link = s := rfl
@[simp] theorem setLink_setLink (x y : LinkController) : (s.setLink x).setLink y = s.setLink y := rfl

@[simp] theorem setMgmt_timer (x : ManagementEngine) : (s.setMgmt x).timer = s.timer := rfl
@[simp] theorem setMgmt_lanes (x : ManagementEngine) : (s.setMgmt x).lanes = s.lanes := rfl
@[simp] theorem setMgmt_channels (x : ManagementEngine) : (s.setMgmt x).channels = s.channels := rfl
@[simp] theorem setMgmt_conditions (x : ManagementEngine) : (s.setMgmt x).conditions = s.conditions := rfl
@[simp] theorem setMgmt_capture (x : ManagementEngine) : (s.setMgmt x).capture = s.capture := rfl
@[simp] theorem setMgmt_delivery (x : ManagementEngine) : (s.setMgmt x).delivery = s.delivery := rfl
@[simp] theorem setMgmt_stream (x : ManagementEngine) : (s.setMgmt x).stream = s.stream := rfl
@[simp] theorem setMgmt_alerts (x : ManagementEngine) : (s.setMgmt x).alerts = s.alerts := rfl
@[simp] theorem setMgmt_link (x : ManagementEngine) : (s.setMgmt x).link = s.link := rfl
@[simp] theorem setMgmt_mgmt (x : ManagementEngine) : (s.setMgmt x).mgmt = x := rfl
@[simp] theorem setMgmt_pending (x : ManagementEngine) : (s.setMgmt x).pending = s.pending := rfl
@[simp] theorem setMgmt_self : s.setMgmt s.mgmt = s := rfl
@[simp] theorem setMgmt_setMgmt (x y : ManagementEngine) : (s.setMgmt x).setMgmt y = s.setMgmt y := rfl

@[simp] theorem setPending_timer (x : List Instr) : (s.setPending x).timer = s.timer := rfl
@[simp] theorem setPending_lanes (x : List Instr) : (s.setPending x).lanes = s.lanes := rfl
@[simp] theorem setPending_channels (x : List Instr) : (s.setPending x).channels = s.channels := rfl
@[simp] theorem setPending_conditions (x : List Instr) : (s.setPending x).conditions = s.conditions := rfl
@[simp] theorem setPending_capture (x : List Instr) : (s.setPending x).capture = s.capture := rfl
@[simp] theorem setPending_delivery (x : List Instr) : (s.setPending x).delivery = s.delivery := rfl
@[simp] theorem setPending_stream (x : List Instr) : (s.setPending x).stream = s.stream := rfl
@[simp] theorem setPending_alerts (x : List Instr) : (s.setPending x).alerts = s.alerts := rfl
@[simp] theorem setPending_link (x : List Instr) : (s.setPending x).link = s.link := rfl
@[simp] theorem setPending_mgmt (x : List Instr) : (s.setPending x).mgmt = s.mgmt := rfl
@[simp] theorem setPending_pending (x : List Instr) : (s.setPending x).pending = x := rfl
@[simp] theorem setPending_self : s.setPending s.pending = s := rfl
@[simp] theorem setPending_setPending (x y : List Instr) : (s.setPending x).setPending y = s.setPending y := rfl

end Sys2Proof.Machine.State
end

