-- ==== Sys2Proof/Laws/Tables.lean ====
section
/-! SUPPORT. Reading a table after it was replaced at one entry or mapped, and membership in the sets kept as bits.
Entries are read at `i.val`, the form simp gives an index `i : Fin n`. -/

namespace Sys2Proof

variable {α β : Type} {n : Nat}

@[simp] theorem Table.put_get (t : Table α n) (i j : Fin n) (a : α) :
    (Table.put t i a)[j.val] = if j = i then a else t[j.val] := by
  simp only [Table.put, Vector.getElem_set, Fin.ext_iff, eq_comm (a := i.val)]

theorem Table.put_get_self (t : Table α n) (i : Fin n) (a : α) : (Table.put t i a)[i.val] = a := by
  rw [Table.put_get, if_pos rfl]

theorem Table.put_get_other (t : Table α n) {i j : Fin n} (a : α) (h : j ≠ i) :
    (Table.put t i a)[j.val] = t[j.val] := by
  rw [Table.put_get, if_neg h]

@[simp] theorem Table.mapAll_get (f : Fin n → α → β) (t : Table α n) (i : Fin n) :
    (Table.mapAll f t)[i.val] = f i t[i.val] := by
  simp [Table.mapAll]

theorem Table.ext_get {t u : Table α n} (h : ∀ i : Fin n, t[i.val] = u[i.val]) : t = u :=
  Vector.ext fun i hi => h ⟨i, hi⟩

/-- A set made of the members a test admits holds exactly those. -/
@[simp] theorem has_ofFnLE (p : Fin n → Bool) (i : Fin n) : has (BitVec.ofFnLE p) i = p i := by
  simp [has]

@[simp] theorem has_single (i j : Fin n) : has (single n i) j = decide (j = i) := by
  simp [single]

@[simp] theorem has_or (a b : BitVec n) (i : Fin n) : has (a ||| b) i = (has a i || has b i) := by simp [has]

@[simp] theorem has_and (a b : BitVec n) (i : Fin n) : has (a &&& b) i = (has a i && has b i) := by simp [has]

@[simp] theorem has_not (a : BitVec n) (i : Fin n) : has (~~~a) i = !has a i := by simp [has]

@[simp] theorem has_zero (i : Fin n) : has 0#n i = false := by simp [has]

/-- A set is empty exactly when it holds no member. -/
theorem eq_zero_iff_has (a : BitVec n) : a = 0#n ↔ ∀ i : Fin n, has a i = false := by
  constructor
  · rintro rfl i
    exact has_zero i
  · intro h
    apply BitVec.eq_of_getLsbD_eq
    intro i hi
    simpa [has] using h ⟨i, hi⟩

end Sys2Proof
end

