-- ==== Sys2Proof/Laws/Untouched.lean ====
section
/-! SUPPORT. For each shared operation of the machine, the blocks it leaves as they were. Each lemma is a conjunction of
one equation per untouched block, which simp uses as so many rewrites. -/

namespace Sys2Proof.Machine

@[simp] theorem raise_frame (a : AlertSource) (s : State) :
    (raise a s).timer = s.timer ∧ (raise a s).lanes = s.lanes ∧ (raise a s).channels = s.channels ∧
    (raise a s).conditions = s.conditions ∧ (raise a s).capture = s.capture ∧ (raise a s).delivery = s.delivery ∧
    (raise a s).stream = s.stream ∧ (raise a s).link = s.link ∧ (raise a s).mgmt = s.mgmt ∧
    (raise a s).pending = s.pending := by simp [raise]

@[simp] theorem settleAlerts_frame (s : State) :
    (settleAlerts s).timer = s.timer ∧ (settleAlerts s).lanes = s.lanes ∧ (settleAlerts s).channels = s.channels ∧
    (settleAlerts s).conditions = s.conditions ∧ (settleAlerts s).capture = s.capture ∧
    (settleAlerts s).delivery = s.delivery ∧ (settleAlerts s).stream = s.stream ∧ (settleAlerts s).link = s.link ∧
    (settleAlerts s).mgmt = s.mgmt ∧ (settleAlerts s).pending = s.pending := by simp [settleAlerts]

@[simp] theorem report_frame (src : Source) (r : LinkReport) (s : State) :
    (report src r s).timer = s.timer ∧ (report src r s).lanes = s.lanes ∧ (report src r s).channels = s.channels ∧
    (report src r s).conditions = s.conditions ∧ (report src r s).capture = s.capture ∧
    (report src r s).link = s.link ∧ (report src r s).pending = s.pending := by cases src <;> simp [report]

@[simp] theorem giveUpFrames_frame (src : Source) (s : State) :
    (giveUpFrames src s).timer = s.timer ∧ (giveUpFrames src s).lanes = s.lanes ∧
    (giveUpFrames src s).channels = s.channels ∧ (giveUpFrames src s).conditions = s.conditions ∧
    (giveUpFrames src s).capture = s.capture ∧ (giveUpFrames src s).pending = s.pending := by cases src <;> simp [giveUpFrames]

@[simp] theorem markStarted_frame (src : Source) (s : State) :
    (markStarted src s).timer = s.timer ∧ (markStarted src s).lanes = s.lanes ∧
    (markStarted src s).channels = s.channels ∧ (markStarted src s).conditions = s.conditions ∧
    (markStarted src s).capture = s.capture ∧ (markStarted src s).link = s.link ∧
    (markStarted src s).pending = s.pending := by
  simp only [markStarted]
  repeat' split
  all_goals simp

@[simp] theorem arbitrate_frame (s : State) :
    (arbitrate s).timer = s.timer ∧ (arbitrate s).lanes = s.lanes ∧ (arbitrate s).channels = s.channels ∧
    (arbitrate s).conditions = s.conditions ∧ (arbitrate s).capture = s.capture ∧ (arbitrate s).pending = s.pending := by
  simp only [arbitrate]
  repeat' split
  all_goals simp

@[simp] theorem queueReply_frame (r : Reply) (s : State) :
    (queueReply r s).timer = s.timer ∧ (queueReply r s).lanes = s.lanes ∧ (queueReply r s).channels = s.channels ∧
    (queueReply r s).conditions = s.conditions ∧ (queueReply r s).capture = s.capture ∧
    (queueReply r s).delivery = s.delivery ∧ (queueReply r s).stream = s.stream ∧
    (queueReply r s).alerts = s.alerts ∧ (queueReply r s).link = s.link ∧ (queueReply r s).pending = s.pending := by simp [queueReply]

@[simp] theorem finishHead_frame (st : Status) (c : ReplyContent) (s : State) :
    (finishHead st c s).timer = s.timer ∧ (finishHead st c s).lanes = s.lanes ∧
    (finishHead st c s).channels = s.channels ∧ (finishHead st c s).conditions = s.conditions ∧
    (finishHead st c s).capture = s.capture ∧ (finishHead st c s).delivery = s.delivery ∧
    (finishHead st c s).stream = s.stream ∧ (finishHead st c s).alerts = s.alerts ∧
    (finishHead st c s).link = s.link ∧ (finishHead st c s).pending = s.pending := by
  simp only [finishHead]
  repeat' split
  all_goals simp

@[simp] theorem refuse_frame (st : Status) (s : State) :
    (refuse st s).timer = s.timer ∧ (refuse st s).lanes = s.lanes ∧ (refuse st s).channels = s.channels ∧
    (refuse st s).conditions = s.conditions ∧ (refuse st s).capture = s.capture ∧
    (refuse st s).delivery = s.delivery ∧ (refuse st s).stream = s.stream ∧ (refuse st s).alerts = s.alerts ∧
    (refuse st s).link = s.link ∧ (refuse st s).pending = s.pending := by simp [refuse]

@[simp] theorem offerRecord_frame (r : EpochRecord) (s : State) :
    (offerRecord r s).timer = s.timer ∧ (offerRecord r s).lanes = s.lanes ∧
    (offerRecord r s).channels = s.channels ∧ (offerRecord r s).delivery = s.delivery ∧
    (offerRecord r s).alerts = s.alerts ∧ (offerRecord r s).link = s.link ∧ (offerRecord r s).mgmt = s.mgmt ∧
    (offerRecord r s).pending = s.pending := by
  simp only [offerRecord]
  repeat' split
  all_goals simp

@[simp] theorem recordClose_frame (n : Epoch) (s : State) :
    (recordClose n s).timer = s.timer ∧ (recordClose n s).lanes = s.lanes ∧
    (recordClose n s).delivery = s.delivery ∧ (recordClose n s).alerts = s.alerts ∧
    (recordClose n s).link = s.link ∧ (recordClose n s).mgmt = s.mgmt ∧ (recordClose n s).pending = s.pending := by
  simp only [recordClose]
  repeat' split
  all_goals simp

@[simp] theorem closeEpoch_frame (c : CloseCause) (s : State) :
    (closeEpoch c s).delivery = s.delivery ∧ (closeEpoch c s).link = s.link ∧ (closeEpoch c s).mgmt = s.mgmt ∧
    (closeEpoch c s).pending = s.pending := by
  unfold closeEpoch
  split
  · simp
  · simp only []
    split <;> simp

@[simp] theorem completenessTest_frame (s : State) :
    (completenessTest s).delivery = s.delivery ∧ (completenessTest s).link = s.link ∧
    (completenessTest s).mgmt = s.mgmt ∧ (completenessTest s).pending = s.pending := by
  simp only [completenessTest]
  repeat' split
  all_goals simp

@[simp] theorem openNext_frame (s : State) :
    (openNext s).delivery = s.delivery ∧ (openNext s).link = s.link ∧ (openNext s).mgmt = s.mgmt ∧
    (openNext s).pending = s.pending := by simp [openNext]

@[simp] theorem lanesLeave_frame (l : LaneSet) (s : State) :
    (lanesLeave l s).delivery = s.delivery ∧ (lanesLeave l s).link = s.link ∧ (lanesLeave l s).mgmt = s.mgmt ∧
    (lanesLeave l s).pending = s.pending := by simp [lanesLeave]

@[simp] theorem loseLane_frame (l : Fin 4) (s : State) :
    (loseLane l s).delivery = s.delivery ∧ (loseLane l s).link = s.link ∧ (loseLane l s).mgmt = s.mgmt ∧
    (loseLane l s).pending = s.pending := by simp [loseLane]

@[simp] theorem putUnit_frame (u : Fin 4) (r : UnitRuntime) (s : State) :
    (putUnit u r s).timer = s.timer ∧ (putUnit u r s).lanes = s.lanes ∧ (putUnit u r s).channels = s.channels ∧
    (putUnit u r s).conditions = s.conditions ∧ (putUnit u r s).delivery = s.delivery ∧
    (putUnit u r s).stream = s.stream ∧ (putUnit u r s).alerts = s.alerts ∧ (putUnit u r s).link = s.link ∧
    (putUnit u r s).mgmt = s.mgmt ∧ (putUnit u r s).pending = s.pending := by simp [putUnit]

@[simp] theorem putFrozen_frame (u : Fin 4) (r : UnitRuntime) (s : State) :
    (putFrozen u r s).timer = s.timer ∧ (putFrozen u r s).lanes = s.lanes ∧
    (putFrozen u r s).channels = s.channels ∧ (putFrozen u r s).conditions = s.conditions ∧
    (putFrozen u r s).delivery = s.delivery ∧ (putFrozen u r s).stream = s.stream ∧
    (putFrozen u r s).alerts = s.alerts ∧ (putFrozen u r s).link = s.link ∧ (putFrozen u r s).mgmt = s.mgmt ∧
    (putFrozen u r s).pending = s.pending := by
  simp only [putFrozen]
  repeat' split
  all_goals simp

@[simp] theorem abortUnit_frame (u : Fin 4) (s : State) :
    (abortUnit u s).timer = s.timer ∧ (abortUnit u s).lanes = s.lanes ∧ (abortUnit u s).channels = s.channels ∧
    (abortUnit u s).conditions = s.conditions ∧ (abortUnit u s).delivery = s.delivery ∧
    (abortUnit u s).stream = s.stream ∧ (abortUnit u s).alerts = s.alerts ∧ (abortUnit u s).link = s.link ∧
    (abortUnit u s).mgmt = s.mgmt ∧ (abortUnit u s).pending = s.pending := by simp [abortUnit]

@[simp] theorem unitStep_frame (rec : EpochRecord) (s : State) (u : Fin 4) :
    (unitStep rec s u).timer = s.timer ∧ (unitStep rec s u).lanes = s.lanes ∧
    (unitStep rec s u).channels = s.channels ∧ (unitStep rec s u).conditions = s.conditions ∧
    (unitStep rec s u).delivery = s.delivery ∧ (unitStep rec s u).stream = s.stream ∧
    (unitStep rec s u).alerts = s.alerts ∧ (unitStep rec s u).link = s.link ∧ (unitStep rec s u).mgmt = s.mgmt ∧
    (unitStep rec s u).pending = s.pending := by
  simp only [unitStep]
  repeat' split
  all_goals simp

@[simp] theorem unitsTake_frame (rec : EpochRecord) (s : State) :
    (unitsTake rec s).timer = s.timer ∧ (unitsTake rec s).lanes = s.lanes ∧
    (unitsTake rec s).channels = s.channels ∧ (unitsTake rec s).conditions = s.conditions ∧
    (unitsTake rec s).delivery = s.delivery ∧ (unitsTake rec s).stream = s.stream ∧
    (unitsTake rec s).alerts = s.alerts ∧ (unitsTake rec s).link = s.link ∧ (unitsTake rec s).mgmt = s.mgmt ∧
    (unitsTake rec s).pending = s.pending := by simp [unitsTake, List.finRange, List.ofFn, Fin.foldr, Fin.foldr.loop]

@[simp] theorem returnAnswer_frame (f : FireRequest) (a : Answer) (s : State) :
    (returnAnswer f a s).timer = s.timer ∧ (returnAnswer f a s).lanes = s.lanes ∧
    (returnAnswer f a s).channels = s.channels ∧ (returnAnswer f a s).capture = s.capture ∧
    (returnAnswer f a s).delivery = s.delivery ∧ (returnAnswer f a s).stream = s.stream ∧
    (returnAnswer f a s).alerts = s.alerts ∧ (returnAnswer f a s).link = s.link ∧
    (returnAnswer f a s).mgmt = s.mgmt ∧ (returnAnswer f a s).pending = s.pending := by
  simp only [returnAnswer]
  repeat' split
  all_goals simp

@[simp] theorem startCapture_frame (f : FireRequest) (e : Epoch) (s : State) :
    (startCapture f e s).timer = s.timer ∧ (startCapture f e s).lanes = s.lanes ∧
    (startCapture f e s).channels = s.channels ∧ (startCapture f e s).delivery = s.delivery ∧
    (startCapture f e s).stream = s.stream ∧ (startCapture f e s).alerts = s.alerts ∧
    (startCapture f e s).link = s.link ∧ (startCapture f e s).mgmt = s.mgmt ∧
    (startCapture f e s).pending = s.pending := by simp [startCapture]

@[simp] theorem takeFire_frame (f : FireRequest) (s : State) :
    (takeFire f s).timer = s.timer ∧ (takeFire f s).lanes = s.lanes ∧ (takeFire f s).channels = s.channels ∧
    (takeFire f s).delivery = s.delivery ∧ (takeFire f s).stream = s.stream ∧ (takeFire f s).alerts = s.alerts ∧
    (takeFire f s).link = s.link ∧ (takeFire f s).mgmt = s.mgmt ∧ (takeFire f s).pending = s.pending := by
  simp only [takeFire]
  repeat' split
  all_goals simp

@[simp] theorem sendFire_frame (f : FireRequest) (s : State) :
    (sendFire f s).timer = s.timer ∧ (sendFire f s).lanes = s.lanes ∧ (sendFire f s).channels = s.channels ∧
    (sendFire f s).conditions = s.conditions ∧ (sendFire f s).delivery = s.delivery ∧
    (sendFire f s).stream = s.stream ∧ (sendFire f s).alerts = s.alerts ∧ (sendFire f s).link = s.link ∧
    (sendFire f s).mgmt = s.mgmt ∧ (sendFire f s).pending = s.pending := by
  simp only [sendFire]
  repeat' split
  all_goals simp

@[simp] theorem putTrigger_frame (t : Fin 8) (r : TriggerRuntime) (s : State) :
    (putTrigger t r s).timer = s.timer ∧ (putTrigger t r s).lanes = s.lanes ∧
    (putTrigger t r s).channels = s.channels ∧ (putTrigger t r s).capture = s.capture ∧
    (putTrigger t r s).delivery = s.delivery ∧ (putTrigger t r s).stream = s.stream ∧
    (putTrigger t r s).alerts = s.alerts ∧ (putTrigger t r s).link = s.link ∧ (putTrigger t r s).mgmt = s.mgmt ∧
    (putTrigger t r s).pending = s.pending := by simp [putTrigger]

@[simp] theorem handleFire_frame (n : Epoch) (s : State) (t : Fin 8) :
    (handleFire n s t).timer = s.timer ∧ (handleFire n s t).lanes = s.lanes ∧
    (handleFire n s t).channels = s.channels ∧ (handleFire n s t).delivery = s.delivery ∧
    (handleFire n s t).stream = s.stream ∧ (handleFire n s t).alerts = s.alerts ∧
    (handleFire n s t).link = s.link ∧ (handleFire n s t).mgmt = s.mgmt ∧ (handleFire n s t).pending = s.pending := by
  simp only [handleFire]
  repeat' split
  all_goals simp

@[simp] theorem releaseDeferred_frame (e : Epoch) (s : State) :
    (releaseDeferred e s).timer = s.timer ∧ (releaseDeferred e s).lanes = s.lanes ∧
    (releaseDeferred e s).channels = s.channels ∧ (releaseDeferred e s).conditions = s.conditions ∧
    (releaseDeferred e s).capture = s.capture ∧ (releaseDeferred e s).delivery = s.delivery ∧
    (releaseDeferred e s).stream = s.stream ∧ (releaseDeferred e s).alerts = s.alerts ∧
    (releaseDeferred e s).link = s.link ∧ (releaseDeferred e s).pending = s.pending := by
  simp only [releaseDeferred]
  repeat' split
  all_goals simp

@[simp] theorem swapPending_frame (e : Epoch) (s : State) :
    (swapPending e s).timer = s.timer ∧ (swapPending e s).lanes = s.lanes ∧
    (swapPending e s).channels = s.channels ∧ (swapPending e s).capture = s.capture ∧
    (swapPending e s).delivery = s.delivery ∧ (swapPending e s).stream = s.stream ∧
    (swapPending e s).alerts = s.alerts ∧ (swapPending e s).link = s.link ∧ (swapPending e s).pending = s.pending := by
  simp only [swapPending]
  repeat' split
  all_goals simp

/-- The handling of a list of fires touches nothing but the Condition Engine and the Capture Controller. -/
@[simp] theorem handleFires_frame (n : Epoch) (ts : List (Fin 8)) (s : State) :
    (ts.foldl (handleFire n) s).timer = s.timer ∧ (ts.foldl (handleFire n) s).lanes = s.lanes ∧
    (ts.foldl (handleFire n) s).channels = s.channels ∧ (ts.foldl (handleFire n) s).delivery = s.delivery ∧
    (ts.foldl (handleFire n) s).stream = s.stream ∧ (ts.foldl (handleFire n) s).alerts = s.alerts ∧
    (ts.foldl (handleFire n) s).link = s.link ∧ (ts.foldl (handleFire n) s).mgmt = s.mgmt ∧
    (ts.foldl (handleFire n) s).pending = s.pending := by
  induction ts generalizing s with
  | nil => simp
  | cons t ts ih => simp [ih]

@[simp] theorem walkRecord_frame (rec : EpochRecord) (s : State) :
    (walkRecord rec s).timer = s.timer ∧ (walkRecord rec s).lanes = s.lanes ∧
    (walkRecord rec s).channels = s.channels ∧ (walkRecord rec s).delivery = s.delivery ∧
    (walkRecord rec s).stream = s.stream ∧ (walkRecord rec s).alerts = s.alerts ∧
    (walkRecord rec s).link = s.link ∧ (walkRecord rec s).pending = s.pending := by simp [walkRecord]

@[simp] theorem countAnswer_frame (a : FireAnswer) (s : State) :
    (countAnswer a s).timer = s.timer ∧ (countAnswer a s).lanes = s.lanes ∧
    (countAnswer a s).channels = s.channels ∧ (countAnswer a s).capture = s.capture ∧
    (countAnswer a s).delivery = s.delivery ∧ (countAnswer a s).stream = s.stream ∧
    (countAnswer a s).link = s.link ∧ (countAnswer a s).mgmt = s.mgmt ∧ (countAnswer a s).pending = s.pending := by
  simp only [countAnswer]
  repeat' split
  all_goals simp

@[simp] theorem completeFire_frame (a : FireAnswer) (s : State) :
    (completeFire a s).timer = s.timer ∧ (completeFire a s).lanes = s.lanes ∧
    (completeFire a s).channels = s.channels ∧ (completeFire a s).conditions = s.conditions ∧
    (completeFire a s).capture = s.capture ∧ (completeFire a s).delivery = s.delivery ∧
    (completeFire a s).stream = s.stream ∧ (completeFire a s).alerts = s.alerts ∧
    (completeFire a s).link = s.link ∧ (completeFire a s).pending = s.pending := by
  simp only [completeFire]
  repeat' split
  all_goals simp

@[simp] theorem startTimer_frame (s : State) :
    (startTimer s).delivery = s.delivery ∧ (startTimer s).link = s.link ∧ (startTimer s).mgmt = s.mgmt ∧
    (startTimer s).pending = s.pending := by simp [startTimer]

@[simp] theorem stopTimer_frame (s : State) :
    (stopTimer s).delivery = s.delivery ∧ (stopTimer s).link = s.link ∧ (stopTimer s).pending = s.pending := by simp [stopTimer]

@[simp] theorem putLane_frame (l : Fin 4) (r : Lane) (s : State) :
    (putLane l r s).timer = s.timer ∧ (putLane l r s).channels = s.channels ∧
    (putLane l r s).conditions = s.conditions ∧ (putLane l r s).capture = s.capture ∧
    (putLane l r s).delivery = s.delivery ∧ (putLane l r s).stream = s.stream ∧ (putLane l r s).alerts = s.alerts ∧
    (putLane l r s).link = s.link ∧ (putLane l r s).mgmt = s.mgmt ∧ (putLane l r s).pending = s.pending := by simp [putLane]

@[simp] theorem acceptWord_frame (l : Fin 4) (k : Fin 8) (raw : BitVec 16) (s : State) :
    (acceptWord l k raw s).delivery = s.delivery ∧ (acceptWord l k raw s).link = s.link ∧
    (acceptWord l k raw s).mgmt = s.mgmt ∧ (acceptWord l k raw s).pending = s.pending := by simp [acceptWord]

@[simp] theorem judgeWord_frame (l : Fin 4) (tag : BitVec 4) (k : Fin 8) (raw : BitVec 16) (s : State) :
    (judgeWord l tag k raw s).delivery = s.delivery ∧ (judgeWord l tag k raw s).link = s.link ∧
    (judgeWord l tag k raw s).mgmt = s.mgmt ∧ (judgeWord l tag k raw s).pending = s.pending := by
  simp only [judgeWord]
  repeat' split
  all_goals simp

@[simp] theorem cutDrain_frame (u : Fin 4) (s : State) :
    (cutDrain u s).timer = s.timer ∧ (cutDrain u s).lanes = s.lanes ∧ (cutDrain u s).channels = s.channels ∧
    (cutDrain u s).conditions = s.conditions ∧ (cutDrain u s).capture = s.capture ∧
    (cutDrain u s).stream = s.stream ∧ (cutDrain u s).alerts = s.alerts ∧ (cutDrain u s).link = s.link ∧
    (cutDrain u s).mgmt = s.mgmt ∧ (cutDrain u s).pending = s.pending := by simp [cutDrain]

@[simp] theorem releaseUnit_frame (u : Fin 4) (s : State) :
    (releaseUnit u s).timer = s.timer ∧ (releaseUnit u s).lanes = s.lanes ∧
    (releaseUnit u s).channels = s.channels ∧ (releaseUnit u s).conditions = s.conditions ∧
    (releaseUnit u s).delivery = s.delivery ∧ (releaseUnit u s).stream = s.stream ∧
    (releaseUnit u s).alerts = s.alerts ∧ (releaseUnit u s).link = s.link ∧ (releaseUnit u s).mgmt = s.mgmt ∧
    (releaseUnit u s).pending = s.pending := by simp [releaseUnit]

@[simp] theorem startDrain_frame (u : Fin 4) (rest : List (Fin 4)) (r : CaptureRecord) (s : State) :
    (startDrain u rest r s).timer = s.timer ∧ (startDrain u rest r s).lanes = s.lanes ∧
    (startDrain u rest r s).channels = s.channels ∧ (startDrain u rest r s).conditions = s.conditions ∧
    (startDrain u rest r s).stream = s.stream ∧ (startDrain u rest r s).alerts = s.alerts ∧
    (startDrain u rest r s).link = s.link ∧ (startDrain u rest r s).mgmt = s.mgmt ∧
    (startDrain u rest r s).pending = s.pending := by simp [startDrain]

@[simp] theorem offerFrame_frame (d : Drain) (p : DrainPosition) (f : CaptureFrame) (s : State) :
    (offerFrame d p f s).timer = s.timer ∧ (offerFrame d p f s).lanes = s.lanes ∧
    (offerFrame d p f s).channels = s.channels ∧ (offerFrame d p f s).conditions = s.conditions ∧
    (offerFrame d p f s).capture = s.capture ∧ (offerFrame d p f s).stream = s.stream ∧
    (offerFrame d p f s).alerts = s.alerts ∧ (offerFrame d p f s).link = s.link ∧
    (offerFrame d p f s).mgmt = s.mgmt ∧ (offerFrame d p f s).pending = s.pending := by simp [offerFrame]

@[simp] theorem offerSegment_frame (d : Drain) (k : Nat) (r : CaptureRecord) (s : State) :
    (offerSegment d k r s).timer = s.timer ∧ (offerSegment d k r s).lanes = s.lanes ∧
    (offerSegment d k r s).channels = s.channels ∧ (offerSegment d k r s).conditions = s.conditions ∧
    (offerSegment d k r s).capture = s.capture ∧ (offerSegment d k r s).stream = s.stream ∧
    (offerSegment d k r s).alerts = s.alerts ∧ (offerSegment d k r s).link = s.link ∧
    (offerSegment d k r s).mgmt = s.mgmt ∧ (offerSegment d k r s).pending = s.pending := by simp [offerSegment]

@[simp] theorem offerEnd_frame (d : Drain) (n : Nat) (o : EndOutcome) (r : CaptureRecord) (s : State) :
    (offerEnd d n o r s).timer = s.timer ∧ (offerEnd d n o r s).lanes = s.lanes ∧
    (offerEnd d n o r s).channels = s.channels ∧ (offerEnd d n o r s).conditions = s.conditions ∧
    (offerEnd d n o r s).capture = s.capture ∧ (offerEnd d n o r s).stream = s.stream ∧
    (offerEnd d n o r s).alerts = s.alerts ∧ (offerEnd d n o r s).link = s.link ∧
    (offerEnd d n o r s).mgmt = s.mgmt ∧ (offerEnd d n o r s).pending = s.pending := by simp [offerEnd]

@[simp] theorem endDrain_frame (s : State) :
    (endDrain s).timer = s.timer ∧ (endDrain s).lanes = s.lanes ∧ (endDrain s).channels = s.channels ∧
    (endDrain s).conditions = s.conditions ∧ (endDrain s).capture = s.capture ∧ (endDrain s).stream = s.stream ∧
    (endDrain s).alerts = s.alerts ∧ (endDrain s).link = s.link ∧ (endDrain s).mgmt = s.mgmt ∧
    (endDrain s).pending = s.pending := by simp [endDrain]

@[simp] theorem deliverUnit_frame (u : Fin 4) (s : State) :
    (deliverUnit u s).timer = s.timer ∧ (deliverUnit u s).lanes = s.lanes ∧
    (deliverUnit u s).channels = s.channels ∧ (deliverUnit u s).conditions = s.conditions ∧
    (deliverUnit u s).delivery = s.delivery ∧ (deliverUnit u s).stream = s.stream ∧
    (deliverUnit u s).alerts = s.alerts ∧ (deliverUnit u s).link = s.link ∧ (deliverUnit u s).mgmt = s.mgmt ∧
    (deliverUnit u s).pending = s.pending := by
  simp only [deliverUnit]
  repeat' split
  all_goals simp

@[simp] theorem frameCompleted_frame (d : Drain) (r : CaptureRecord) (s : State) :
    (frameCompleted d r s).timer = s.timer ∧ (frameCompleted d r s).lanes = s.lanes ∧
    (frameCompleted d r s).channels = s.channels ∧ (frameCompleted d r s).conditions = s.conditions ∧
    (frameCompleted d r s).stream = s.stream ∧ (frameCompleted d r s).link = s.link ∧
    (frameCompleted d r s).mgmt = s.mgmt ∧ (frameCompleted d r s).pending = s.pending := by
  simp only [frameCompleted]
  repeat' split
  all_goals simp

@[simp] theorem frameCompletedAlone_frame (d : Drain) (s : State) :
    (frameCompletedAlone d s).timer = s.timer ∧ (frameCompletedAlone d s).lanes = s.lanes ∧
    (frameCompletedAlone d s).channels = s.channels ∧ (frameCompletedAlone d s).conditions = s.conditions ∧
    (frameCompletedAlone d s).capture = s.capture ∧ (frameCompletedAlone d s).stream = s.stream ∧
    (frameCompletedAlone d s).link = s.link ∧ (frameCompletedAlone d s).mgmt = s.mgmt ∧
    (frameCompletedAlone d s).pending = s.pending := by
  simp only [frameCompletedAlone]
  repeat' split
  all_goals simp

@[simp] theorem takeCaptureCompletion_frame (s : State) :
    (takeCaptureCompletion s).timer = s.timer ∧ (takeCaptureCompletion s).lanes = s.lanes ∧
    (takeCaptureCompletion s).channels = s.channels ∧ (takeCaptureCompletion s).conditions = s.conditions ∧
    (takeCaptureCompletion s).stream = s.stream ∧ (takeCaptureCompletion s).link = s.link ∧
    (takeCaptureCompletion s).mgmt = s.mgmt ∧ (takeCaptureCompletion s).pending = s.pending := by
  simp only [takeCaptureCompletion]
  repeat' split
  all_goals simp

@[simp] theorem returnUnit_frame (u : Fin 4) (s : State) :
    (returnUnit u s).timer = s.timer ∧ (returnUnit u s).lanes = s.lanes ∧ (returnUnit u s).channels = s.channels ∧
    (returnUnit u s).conditions = s.conditions ∧ (returnUnit u s).delivery = s.delivery ∧
    (returnUnit u s).stream = s.stream ∧ (returnUnit u s).alerts = s.alerts ∧ (returnUnit u s).link = s.link ∧
    (returnUnit u s).mgmt = s.mgmt ∧ (returnUnit u s).pending = s.pending := by simp [returnUnit]

@[simp] theorem breakDrain_frame (d : Drain) (s : State) :
    (breakDrain d s).timer = s.timer ∧ (breakDrain d s).lanes = s.lanes ∧ (breakDrain d s).channels = s.channels ∧
    (breakDrain d s).conditions = s.conditions ∧ (breakDrain d s).stream = s.stream ∧
    (breakDrain d s).alerts = s.alerts ∧ (breakDrain d s).link = s.link ∧ (breakDrain d s).mgmt = s.mgmt ∧
    (breakDrain d s).pending = s.pending := by
  simp only [breakDrain]
  repeat' split
  all_goals simp

@[simp] theorem queueFrame_frame (e : Epoch) (v : List (Fin 16 × Option Value)) (s : State) :
    (queueFrame e v s).timer = s.timer ∧ (queueFrame e v s).lanes = s.lanes ∧
    (queueFrame e v s).channels = s.channels ∧ (queueFrame e v s).conditions = s.conditions ∧
    (queueFrame e v s).capture = s.capture ∧ (queueFrame e v s).delivery = s.delivery ∧
    (queueFrame e v s).link = s.link ∧ (queueFrame e v s).mgmt = s.mgmt ∧ (queueFrame e v s).pending = s.pending := by
  simp only [queueFrame]
  repeat' split
  all_goals simp

@[simp] theorem streamRecord_frame (rec : EpochRecord) (s : State) :
    (streamRecord rec s).timer = s.timer ∧ (streamRecord rec s).lanes = s.lanes ∧
    (streamRecord rec s).channels = s.channels ∧ (streamRecord rec s).conditions = s.conditions ∧
    (streamRecord rec s).capture = s.capture ∧ (streamRecord rec s).delivery = s.delivery ∧
    (streamRecord rec s).link = s.link ∧ (streamRecord rec s).mgmt = s.mgmt ∧
    (streamRecord rec s).pending = s.pending := by
  simp only [streamRecord]
  repeat' split
  all_goals simp

@[simp] theorem takeStreamCompletion_frame (s : State) :
    (takeStreamCompletion s).timer = s.timer ∧ (takeStreamCompletion s).lanes = s.lanes ∧
    (takeStreamCompletion s).channels = s.channels ∧ (takeStreamCompletion s).conditions = s.conditions ∧
    (takeStreamCompletion s).capture = s.capture ∧ (takeStreamCompletion s).delivery = s.delivery ∧
    (takeStreamCompletion s).alerts = s.alerts ∧ (takeStreamCompletion s).link = s.link ∧
    (takeStreamCompletion s).mgmt = s.mgmt ∧ (takeStreamCompletion s).pending = s.pending := by
  simp only [takeStreamCompletion]
  repeat' split
  all_goals simp

@[simp] theorem startTrain_frame (s : State) :
    (startTrain s).timer = s.timer ∧ (startTrain s).lanes = s.lanes ∧ (startTrain s).channels = s.channels ∧
    (startTrain s).conditions = s.conditions ∧ (startTrain s).capture = s.capture ∧
    (startTrain s).delivery = s.delivery ∧ (startTrain s).stream = s.stream ∧ (startTrain s).alerts = s.alerts ∧
    (startTrain s).mgmt = s.mgmt ∧ (startTrain s).pending = s.pending := by
  simp only [startTrain]
  repeat' split
  all_goals simp

@[simp] theorem enterDown_frame (s : State) :
    (enterDown s).timer = s.timer ∧ (enterDown s).lanes = s.lanes ∧ (enterDown s).channels = s.channels ∧
    (enterDown s).conditions = s.conditions ∧ (enterDown s).capture = s.capture ∧ (enterDown s).pending = s.pending := by simp [enterDown]

@[simp] theorem goodFrame_frame (s : State) :
    (goodFrame s).timer = s.timer ∧ (goodFrame s).lanes = s.lanes ∧ (goodFrame s).channels = s.channels ∧
    (goodFrame s).conditions = s.conditions ∧ (goodFrame s).capture = s.capture ∧
    (goodFrame s).delivery = s.delivery ∧ (goodFrame s).stream = s.stream ∧ (goodFrame s).alerts = s.alerts ∧
    (goodFrame s).mgmt = s.mgmt ∧ (goodFrame s).pending = s.pending := by simp [goodFrame]

@[simp] theorem breakTraining_frame (s : State) :
    (breakTraining s).timer = s.timer ∧ (breakTraining s).lanes = s.lanes ∧
    (breakTraining s).channels = s.channels ∧ (breakTraining s).conditions = s.conditions ∧
    (breakTraining s).capture = s.capture ∧ (breakTraining s).delivery = s.delivery ∧
    (breakTraining s).stream = s.stream ∧ (breakTraining s).alerts = s.alerts ∧ (breakTraining s).mgmt = s.mgmt ∧
    (breakTraining s).pending = s.pending := by simp [breakTraining]

@[simp] theorem grant_frame (c : Byte) (s : State) :
    (grant c s).timer = s.timer ∧ (grant c s).lanes = s.lanes ∧ (grant c s).channels = s.channels ∧
    (grant c s).conditions = s.conditions ∧ (grant c s).capture = s.capture ∧ (grant c s).delivery = s.delivery ∧
    (grant c s).stream = s.stream ∧ (grant c s).mgmt = s.mgmt ∧ (grant c s).pending = s.pending := by
  simp only [grant]
  repeat' split
  all_goals simp

@[simp] theorem completeFirst_frame (src : Source) (s : State) :
    (completeFirst src s).timer = s.timer ∧ (completeFirst src s).lanes = s.lanes ∧
    (completeFirst src s).channels = s.channels ∧ (completeFirst src s).conditions = s.conditions ∧
    (completeFirst src s).link = s.link ∧ (completeFirst src s).mgmt = s.mgmt ∧
    (completeFirst src s).pending = s.pending := by
  cases src <;> simp only [completeFirst] <;> (try split) <;> (try simp)

@[simp] theorem nextFrame_frame (s : State) :
    (nextFrame s).timer = s.timer ∧ (nextFrame s).lanes = s.lanes ∧ (nextFrame s).channels = s.channels ∧
    (nextFrame s).conditions = s.conditions ∧ (nextFrame s).capture = s.capture ∧ (nextFrame s).pending = s.pending := by
  simp only [nextFrame]
  repeat' split
  all_goals simp

@[simp] theorem deferCommit_frame (q : Request) (s : State) :
    (deferCommit q s).timer = s.timer ∧ (deferCommit q s).lanes = s.lanes ∧
    (deferCommit q s).channels = s.channels ∧ (deferCommit q s).capture = s.capture ∧
    (deferCommit q s).delivery = s.delivery ∧ (deferCommit q s).stream = s.stream ∧
    (deferCommit q s).alerts = s.alerts ∧ (deferCommit q s).link = s.link ∧ (deferCommit q s).pending = s.pending := by simp [deferCommit]

@[simp] theorem forceFire_frame (t : Fin 8) (u : Fin 4) (e : Epoch) (s : State) :
    (forceFire t u e s).timer = s.timer ∧ (forceFire t u e s).lanes = s.lanes ∧
    (forceFire t u e s).channels = s.channels ∧ (forceFire t u e s).conditions = s.conditions ∧
    (forceFire t u e s).delivery = s.delivery ∧ (forceFire t u e s).stream = s.stream ∧
    (forceFire t u e s).alerts = s.alerts ∧ (forceFire t u e s).link = s.link ∧
    (forceFire t u e s).pending = s.pending := by simp [forceFire]

@[simp] theorem clearPeaks_frame (c : Fin 16) (s : State) :
    (clearPeaks c s).timer = s.timer ∧ (clearPeaks c s).lanes = s.lanes ∧
    (clearPeaks c s).conditions = s.conditions ∧ (clearPeaks c s).capture = s.capture ∧
    (clearPeaks c s).delivery = s.delivery ∧ (clearPeaks c s).stream = s.stream ∧
    (clearPeaks c s).alerts = s.alerts ∧ (clearPeaks c s).link = s.link ∧ (clearPeaks c s).mgmt = s.mgmt ∧
    (clearPeaks c s).pending = s.pending := by simp [clearPeaks]

@[simp] theorem answerRead_frame (q : Request) (t : TableName) (s : State) :
    (answerRead q t s).timer = s.timer ∧ (answerRead q t s).lanes = s.lanes ∧
    (answerRead q t s).channels = s.channels ∧ (answerRead q t s).conditions = s.conditions ∧
    (answerRead q t s).capture = s.capture ∧ (answerRead q t s).delivery = s.delivery ∧
    (answerRead q t s).stream = s.stream ∧ (answerRead q t s).alerts = s.alerts ∧
    (answerRead q t s).link = s.link ∧ (answerRead q t s).pending = s.pending := by
  simp only [answerRead]
  repeat' split
  all_goals simp

@[simp] theorem applyControl_frame (r : ControlRecord) (s : State) :
    (applyControl r s).delivery = s.delivery ∧ (applyControl r s).link = s.link ∧
    (applyControl r s).pending = s.pending := by
  simp only [applyControl]
  split <;> simp

@[simp] theorem applyChannel_frame (c : Fin 16) (e : ChannelEntry) (s : State) :
    (applyChannel c e s).delivery = s.delivery ∧ (applyChannel c e s).link = s.link ∧
    (applyChannel c e s).mgmt = s.mgmt ∧ (applyChannel c e s).pending = s.pending := by
  simp only [applyChannel]
  split <;> simp

@[simp] theorem setEdit_frame (b : Bank) (s : State) :
    (setEdit b s).timer = s.timer ∧ (setEdit b s).lanes = s.lanes ∧ (setEdit b s).channels = s.channels ∧
    (setEdit b s).capture = s.capture ∧ (setEdit b s).delivery = s.delivery ∧ (setEdit b s).stream = s.stream ∧
    (setEdit b s).alerts = s.alerts ∧ (setEdit b s).link = s.link ∧ (setEdit b s).mgmt = s.mgmt ∧
    (setEdit b s).pending = s.pending := by simp [setEdit]

@[simp] theorem dropDeferred_frame (s : State) :
    (dropDeferred s).timer = s.timer ∧ (dropDeferred s).lanes = s.lanes ∧ (dropDeferred s).channels = s.channels ∧
    (dropDeferred s).conditions = s.conditions ∧ (dropDeferred s).capture = s.capture ∧
    (dropDeferred s).delivery = s.delivery ∧ (dropDeferred s).stream = s.stream ∧
    (dropDeferred s).alerts = s.alerts ∧ (dropDeferred s).link = s.link ∧ (dropDeferred s).pending = s.pending := by
  simp only [dropDeferred]
  repeat' split
  all_goals simp

@[simp] theorem cancelCommit_frame (s : State) :
    (cancelCommit s).timer = s.timer ∧ (cancelCommit s).lanes = s.lanes ∧ (cancelCommit s).channels = s.channels ∧
    (cancelCommit s).capture = s.capture ∧ (cancelCommit s).delivery = s.delivery ∧
    (cancelCommit s).stream = s.stream ∧ (cancelCommit s).alerts = s.alerts ∧ (cancelCommit s).link = s.link ∧
    (cancelCommit s).pending = s.pending := by simp [cancelCommit]

@[simp] theorem giveUpFrames_reply_frame (s : State) :
    (giveUpFrames .reply s).timer = s.timer ∧ (giveUpFrames .reply s).lanes = s.lanes ∧
    (giveUpFrames .reply s).channels = s.channels ∧ (giveUpFrames .reply s).conditions = s.conditions ∧
    (giveUpFrames .reply s).capture = s.capture ∧ (giveUpFrames .reply s).delivery = s.delivery ∧
    (giveUpFrames .reply s).stream = s.stream ∧ (giveUpFrames .reply s).alerts = s.alerts ∧
    (giveUpFrames .reply s).pending = s.pending := by simp [giveUpFrames]

@[simp] theorem giveUpFrames_alert_frame (s : State) :
    (giveUpFrames .alert s).timer = s.timer ∧ (giveUpFrames .alert s).lanes = s.lanes ∧
    (giveUpFrames .alert s).channels = s.channels ∧ (giveUpFrames .alert s).conditions = s.conditions ∧
    (giveUpFrames .alert s).capture = s.capture ∧ (giveUpFrames .alert s).delivery = s.delivery ∧
    (giveUpFrames .alert s).stream = s.stream ∧ (giveUpFrames .alert s).mgmt = s.mgmt ∧
    (giveUpFrames .alert s).pending = s.pending := by simp [giveUpFrames]

@[simp] theorem giveUpFrames_delivery_frame (s : State) :
    (giveUpFrames .delivery s).timer = s.timer ∧ (giveUpFrames .delivery s).lanes = s.lanes ∧
    (giveUpFrames .delivery s).channels = s.channels ∧ (giveUpFrames .delivery s).conditions = s.conditions ∧
    (giveUpFrames .delivery s).capture = s.capture ∧ (giveUpFrames .delivery s).stream = s.stream ∧
    (giveUpFrames .delivery s).alerts = s.alerts ∧ (giveUpFrames .delivery s).mgmt = s.mgmt ∧
    (giveUpFrames .delivery s).pending = s.pending := by simp [giveUpFrames]

@[simp] theorem giveUpFrames_stream_frame (s : State) :
    (giveUpFrames .stream s).timer = s.timer ∧ (giveUpFrames .stream s).lanes = s.lanes ∧
    (giveUpFrames .stream s).channels = s.channels ∧ (giveUpFrames .stream s).conditions = s.conditions ∧
    (giveUpFrames .stream s).capture = s.capture ∧ (giveUpFrames .stream s).delivery = s.delivery ∧
    (giveUpFrames .stream s).alerts = s.alerts ∧ (giveUpFrames .stream s).mgmt = s.mgmt ∧
    (giveUpFrames .stream s).pending = s.pending := by simp [giveUpFrames]

@[simp] theorem epochStart_frame (q : Request) (s : State) :
    (epochStart q s).delivery = s.delivery ∧ (epochStart q s).link = s.link ∧ (epochStart q s).pending = s.pending := by
  simp only [epochStart]
  repeat' split
  all_goals simp

@[simp] theorem epochStop_frame (q : Request) (s : State) :
    (epochStop q s).delivery = s.delivery ∧ (epochStop q s).link = s.link ∧ (epochStop q s).pending = s.pending := by
  simp only [epochStop]
  repeat' split
  all_goals simp

@[simp] theorem arm_frame (q : Request) (s : State) :
    (arm q s).timer = s.timer ∧ (arm q s).lanes = s.lanes ∧ (arm q s).channels = s.channels ∧
    (arm q s).conditions = s.conditions ∧ (arm q s).delivery = s.delivery ∧ (arm q s).stream = s.stream ∧
    (arm q s).alerts = s.alerts ∧ (arm q s).link = s.link ∧ (arm q s).pending = s.pending := by
  simp only [arm]
  repeat' split
  all_goals simp

@[simp] theorem abort_frame (q : Request) (s : State) :
    (abort q s).timer = s.timer ∧ (abort q s).lanes = s.lanes ∧ (abort q s).channels = s.channels ∧
    (abort q s).conditions = s.conditions ∧ (abort q s).stream = s.stream ∧ (abort q s).alerts = s.alerts ∧
    (abort q s).link = s.link ∧ (abort q s).pending = s.pending := by
  simp only [abort]
  repeat' split
  all_goals simp

@[simp] theorem release_frame (q : Request) (s : State) :
    (release q s).timer = s.timer ∧ (release q s).lanes = s.lanes ∧ (release q s).channels = s.channels ∧
    (release q s).conditions = s.conditions ∧ (release q s).delivery = s.delivery ∧
    (release q s).stream = s.stream ∧ (release q s).alerts = s.alerts ∧ (release q s).link = s.link ∧
    (release q s).pending = s.pending := by
  simp only [release]
  repeat' split
  all_goals simp

@[simp] theorem replay_frame (q : Request) (s : State) :
    (replay q s).timer = s.timer ∧ (replay q s).lanes = s.lanes ∧ (replay q s).channels = s.channels ∧
    (replay q s).conditions = s.conditions ∧ (replay q s).delivery = s.delivery ∧ (replay q s).stream = s.stream ∧
    (replay q s).alerts = s.alerts ∧ (replay q s).link = s.link ∧ (replay q s).pending = s.pending := by
  simp only [replay]
  repeat' split
  all_goals simp

@[simp] theorem alertAck_frame (q : Request) (s : State) :
    (alertAck q s).timer = s.timer ∧ (alertAck q s).lanes = s.lanes ∧ (alertAck q s).channels = s.channels ∧
    (alertAck q s).conditions = s.conditions ∧ (alertAck q s).capture = s.capture ∧
    (alertAck q s).delivery = s.delivery ∧ (alertAck q s).stream = s.stream ∧ (alertAck q s).link = s.link ∧
    (alertAck q s).pending = s.pending := by
  simp only [alertAck]
  repeat' split
  all_goals simp

@[simp] theorem commit_frame (q : Request) (s : State) :
    (commit q s).timer = s.timer ∧ (commit q s).lanes = s.lanes ∧ (commit q s).channels = s.channels ∧
    (commit q s).capture = s.capture ∧ (commit q s).delivery = s.delivery ∧ (commit q s).stream = s.stream ∧
    (commit q s).alerts = s.alerts ∧ (commit q s).link = s.link ∧ (commit q s).pending = s.pending := by
  simp only [commit]
  repeat' split
  all_goals simp

@[simp] theorem discardEdits_frame (q : Request) (s : State) :
    (discardEdits q s).timer = s.timer ∧ (discardEdits q s).lanes = s.lanes ∧
    (discardEdits q s).channels = s.channels ∧ (discardEdits q s).capture = s.capture ∧
    (discardEdits q s).delivery = s.delivery ∧ (discardEdits q s).stream = s.stream ∧
    (discardEdits q s).alerts = s.alerts ∧ (discardEdits q s).link = s.link ∧
    (discardEdits q s).pending = s.pending := by
  simp only [discardEdits]
  repeat' split
  all_goals simp

@[simp] theorem fire_frame (q : Request) (s : State) :
    (fire q s).timer = s.timer ∧ (fire q s).lanes = s.lanes ∧ (fire q s).channels = s.channels ∧
    (fire q s).delivery = s.delivery ∧ (fire q s).stream = s.stream ∧ (fire q s).alerts = s.alerts ∧
    (fire q s).link = s.link ∧ (fire q s).pending = s.pending := by
  simp only [fire]
  repeat' split
  all_goals simp

@[simp] theorem status_frame (q : Request) (s : State) :
    (status q s).timer = s.timer ∧ (status q s).lanes = s.lanes ∧ (status q s).channels = s.channels ∧
    (status q s).conditions = s.conditions ∧ (status q s).capture = s.capture ∧
    (status q s).delivery = s.delivery ∧ (status q s).stream = s.stream ∧ (status q s).alerts = s.alerts ∧
    (status q s).link = s.link ∧ (status q s).pending = s.pending := by simp [status]

@[simp] theorem unknownKind_frame (q : Request) (s : State) :
    (unknownKind q s).timer = s.timer ∧ (unknownKind q s).lanes = s.lanes ∧
    (unknownKind q s).channels = s.channels ∧ (unknownKind q s).conditions = s.conditions ∧
    (unknownKind q s).capture = s.capture ∧ (unknownKind q s).delivery = s.delivery ∧
    (unknownKind q s).stream = s.stream ∧ (unknownKind q s).alerts = s.alerts ∧ (unknownKind q s).link = s.link ∧
    (unknownKind q s).pending = s.pending := by simp [unknownKind]

@[simp] theorem resetRequest_frame (q : Request) (s : State) :
    (resetRequest q s).timer = s.timer ∧ (resetRequest q s).lanes = s.lanes ∧
    (resetRequest q s).channels = s.channels ∧ (resetRequest q s).conditions = s.conditions ∧
    (resetRequest q s).capture = s.capture ∧ (resetRequest q s).delivery = s.delivery ∧
    (resetRequest q s).stream = s.stream ∧ (resetRequest q s).alerts = s.alerts ∧
    (resetRequest q s).pending = s.pending := by simp [resetRequest]

@[simp] theorem read_frame (q : Request) (s : State) :
    (read q s).timer = s.timer ∧ (read q s).lanes = s.lanes ∧ (read q s).channels = s.channels ∧
    (read q s).conditions = s.conditions ∧ (read q s).capture = s.capture ∧ (read q s).delivery = s.delivery ∧
    (read q s).stream = s.stream ∧ (read q s).alerts = s.alerts ∧ (read q s).link = s.link ∧
    (read q s).pending = s.pending := by
  simp only [read]
  repeat' split
  all_goals simp

@[simp] theorem readChannelRuntime_frame (q : Request) (s : State) :
    (readChannelRuntime q s).timer = s.timer ∧ (readChannelRuntime q s).lanes = s.lanes ∧
    (readChannelRuntime q s).conditions = s.conditions ∧ (readChannelRuntime q s).capture = s.capture ∧
    (readChannelRuntime q s).delivery = s.delivery ∧ (readChannelRuntime q s).stream = s.stream ∧
    (readChannelRuntime q s).alerts = s.alerts ∧ (readChannelRuntime q s).link = s.link ∧
    (readChannelRuntime q s).pending = s.pending := by
  simp only [readChannelRuntime]
  repeat' split
  all_goals simp

@[simp] theorem write_frame (q : Request) (s : State) :
    (write q s).timer = s.timer ∧ (write q s).lanes = s.lanes ∧ (write q s).channels = s.channels ∧
    (write q s).conditions = s.conditions ∧ (write q s).capture = s.capture ∧ (write q s).delivery = s.delivery ∧
    (write q s).stream = s.stream ∧ (write q s).alerts = s.alerts ∧ (write q s).link = s.link ∧
    (write q s).pending = s.pending := by
  simp only [write]
  repeat' split
  all_goals simp

@[simp] theorem writeControl_frame (q : Request) (s : State) :
    (writeControl q s).delivery = s.delivery ∧ (writeControl q s).link = s.link ∧
    (writeControl q s).pending = s.pending := by
  simp only [writeControl]
  repeat' split
  all_goals simp

@[simp] theorem writeChannel_frame (q : Request) (s : State) :
    (writeChannel q s).delivery = s.delivery ∧ (writeChannel q s).link = s.link ∧
    (writeChannel q s).pending = s.pending := by
  simp only [writeChannel]
  repeat' split
  all_goals simp

@[simp] theorem writeBanked_frame {α : Type} (n : Nat) (table : TableName) (decode : List Byte → Option α) (put : Fin n → α → Bank → Bank)
    (q : Request) (s : State) :
    (writeBanked n table decode put q s).timer = s.timer ∧ (writeBanked n table decode put q s).lanes = s.lanes ∧
    (writeBanked n table decode put q s).channels = s.channels ∧
    (writeBanked n table decode put q s).capture = s.capture ∧
    (writeBanked n table decode put q s).delivery = s.delivery ∧
    (writeBanked n table decode put q s).stream = s.stream ∧
    (writeBanked n table decode put q s).alerts = s.alerts ∧ (writeBanked n table decode put q s).link = s.link ∧
    (writeBanked n table decode put q s).pending = s.pending := by
  simp only [writeBanked]
  repeat' split
  all_goals simp

@[simp] theorem writeLevel_frame (q : Request) (s : State) :
    (writeLevel q s).timer = s.timer ∧ (writeLevel q s).lanes = s.lanes ∧ (writeLevel q s).channels = s.channels ∧
    (writeLevel q s).capture = s.capture ∧ (writeLevel q s).delivery = s.delivery ∧
    (writeLevel q s).stream = s.stream ∧ (writeLevel q s).alerts = s.alerts ∧ (writeLevel q s).link = s.link ∧
    (writeLevel q s).pending = s.pending := by simp [writeLevel]

@[simp] theorem writeCondition_frame (q : Request) (s : State) :
    (writeCondition q s).timer = s.timer ∧ (writeCondition q s).lanes = s.lanes ∧
    (writeCondition q s).channels = s.channels ∧ (writeCondition q s).capture = s.capture ∧
    (writeCondition q s).delivery = s.delivery ∧ (writeCondition q s).stream = s.stream ∧
    (writeCondition q s).alerts = s.alerts ∧ (writeCondition q s).link = s.link ∧
    (writeCondition q s).pending = s.pending := by simp [writeCondition]

@[simp] theorem writeTrigger_frame (q : Request) (s : State) :
    (writeTrigger q s).timer = s.timer ∧ (writeTrigger q s).lanes = s.lanes ∧
    (writeTrigger q s).channels = s.channels ∧ (writeTrigger q s).capture = s.capture ∧
    (writeTrigger q s).delivery = s.delivery ∧ (writeTrigger q s).stream = s.stream ∧
    (writeTrigger q s).alerts = s.alerts ∧ (writeTrigger q s).link = s.link ∧
    (writeTrigger q s).pending = s.pending := by simp [writeTrigger]

@[simp] theorem writeUnit_frame (q : Request) (s : State) :
    (writeUnit q s).timer = s.timer ∧ (writeUnit q s).lanes = s.lanes ∧ (writeUnit q s).channels = s.channels ∧
    (writeUnit q s).conditions = s.conditions ∧ (writeUnit q s).delivery = s.delivery ∧
    (writeUnit q s).stream = s.stream ∧ (writeUnit q s).alerts = s.alerts ∧ (writeUnit q s).link = s.link ∧
    (writeUnit q s).pending = s.pending := by
  simp only [writeUnit]
  repeat' split
  all_goals simp

@[simp] theorem periodExpiry_frame (s : State) :
    (periodExpiry s).delivery = s.delivery ∧ (periodExpiry s).link = s.link ∧ (periodExpiry s).mgmt = s.mgmt ∧
    (periodExpiry s).pending = s.pending := by
  simp only [periodExpiry]
  repeat' split
  all_goals simp

@[simp] theorem laneWord_frame (l : Fin 4) (tag : BitVec 4) (k : Fin 8) (raw : BitVec 16) (s : State) :
    (laneWord l tag k raw s).delivery = s.delivery ∧ (laneWord l tag k raw s).link = s.link ∧
    (laneWord l tag k raw s).mgmt = s.mgmt ∧ (laneWord l tag k raw s).pending = s.pending := by
  simp only [laneWord]
  repeat' split
  all_goals simp

@[simp] theorem alignmentMark_frame (l : Fin 4) (s : State) :
    (alignmentMark l s).timer = s.timer ∧ (alignmentMark l s).channels = s.channels ∧
    (alignmentMark l s).conditions = s.conditions ∧ (alignmentMark l s).capture = s.capture ∧
    (alignmentMark l s).delivery = s.delivery ∧ (alignmentMark l s).stream = s.stream ∧
    (alignmentMark l s).alerts = s.alerts ∧ (alignmentMark l s).link = s.link ∧ (alignmentMark l s).mgmt = s.mgmt ∧
    (alignmentMark l s).pending = s.pending := by
  simp only [alignmentMark]
  repeat' split
  all_goals simp

@[simp] theorem badSymbol_frame (l : Fin 4) (s : State) :
    (badSymbol l s).delivery = s.delivery ∧ (badSymbol l s).link = s.link ∧ (badSymbol l s).mgmt = s.mgmt ∧
    (badSymbol l s).pending = s.pending := by
  simp only [badSymbol]
  repeat' split
  all_goals simp

@[simp] theorem laneLossOfSignal_frame (l : Fin 4) (s : State) :
    (laneLossOfSignal l s).delivery = s.delivery ∧ (laneLossOfSignal l s).link = s.link ∧
    (laneLossOfSignal l s).mgmt = s.mgmt ∧ (laneLossOfSignal l s).pending = s.pending := by
  simp only [laneLossOfSignal]
  repeat' split
  all_goals simp

@[simp] theorem fireRequest_frame (s : State) :
    (fireRequest s).timer = s.timer ∧ (fireRequest s).lanes = s.lanes ∧ (fireRequest s).channels = s.channels ∧
    (fireRequest s).delivery = s.delivery ∧ (fireRequest s).stream = s.stream ∧ (fireRequest s).alerts = s.alerts ∧
    (fireRequest s).link = s.link ∧ (fireRequest s).mgmt = s.mgmt ∧ (fireRequest s).pending = s.pending := by
  simp only [fireRequest]
  repeat' split
  all_goals simp

@[simp] theorem captureRecordTake_frame (s : State) :
    (captureRecordTake s).timer = s.timer ∧ (captureRecordTake s).lanes = s.lanes ∧
    (captureRecordTake s).channels = s.channels ∧ (captureRecordTake s).conditions = s.conditions ∧
    (captureRecordTake s).delivery = s.delivery ∧ (captureRecordTake s).stream = s.stream ∧
    (captureRecordTake s).alerts = s.alerts ∧ (captureRecordTake s).link = s.link ∧
    (captureRecordTake s).mgmt = s.mgmt ∧ (captureRecordTake s).pending = s.pending := by
  simp only [captureRecordTake]
  repeat' split
  all_goals simp

@[simp] theorem decimationReload_frame (s : State) :
    (decimationReload s).timer = s.timer ∧ (decimationReload s).lanes = s.lanes ∧
    (decimationReload s).channels = s.channels ∧ (decimationReload s).conditions = s.conditions ∧
    (decimationReload s).capture = s.capture ∧ (decimationReload s).delivery = s.delivery ∧
    (decimationReload s).alerts = s.alerts ∧ (decimationReload s).link = s.link ∧
    (decimationReload s).mgmt = s.mgmt ∧ (decimationReload s).pending = s.pending := by
  simp only [decimationReload]
  repeat' split
  all_goals simp

@[simp] theorem walk_frame (s : State) :
    (walk s).timer = s.timer ∧ (walk s).lanes = s.lanes ∧ (walk s).channels = s.channels ∧
    (walk s).pending = s.pending := by
  simp only [walk]
  repeat' split
  all_goals simp

@[simp] theorem fireAnswer_frame (s : State) :
    (fireAnswer s).timer = s.timer ∧ (fireAnswer s).lanes = s.lanes ∧ (fireAnswer s).channels = s.channels ∧
    (fireAnswer s).capture = s.capture ∧ (fireAnswer s).pending = s.pending := by
  simp only [fireAnswer]
  repeat' split
  all_goals simp

@[simp] theorem streamRecordTake_frame (s : State) :
    (streamRecordTake s).timer = s.timer ∧ (streamRecordTake s).lanes = s.lanes ∧
    (streamRecordTake s).channels = s.channels ∧ (streamRecordTake s).conditions = s.conditions ∧
    (streamRecordTake s).capture = s.capture ∧ (streamRecordTake s).pending = s.pending := by
  simp only [streamRecordTake]
  repeat' split
  all_goals simp

@[simp] theorem streamFrameCompletion_frame (s : State) :
    (streamFrameCompletion s).timer = s.timer ∧ (streamFrameCompletion s).lanes = s.lanes ∧
    (streamFrameCompletion s).channels = s.channels ∧ (streamFrameCompletion s).conditions = s.conditions ∧
    (streamFrameCompletion s).capture = s.capture ∧ (streamFrameCompletion s).pending = s.pending := by
  simp only [streamFrameCompletion]
  repeat' split
  all_goals simp

@[simp] theorem drainStart_frame (s : State) :
    (drainStart s).timer = s.timer ∧ (drainStart s).lanes = s.lanes ∧ (drainStart s).channels = s.channels ∧
    (drainStart s).conditions = s.conditions ∧ (drainStart s).pending = s.pending := by
  simp only [drainStart]
  repeat' split
  all_goals simp

@[simp] theorem captureFrameCompletion_frame (s : State) :
    (captureFrameCompletion s).timer = s.timer ∧ (captureFrameCompletion s).lanes = s.lanes ∧
    (captureFrameCompletion s).channels = s.channels ∧ (captureFrameCompletion s).conditions = s.conditions ∧
    (captureFrameCompletion s).pending = s.pending := by
  simp only [captureFrameCompletion]
  repeat' split
  all_goals simp

@[simp] theorem alertRaise_frame (a : AlertSource) (s : State) :
    (alertRaise a s).timer = s.timer ∧ (alertRaise a s).lanes = s.lanes ∧ (alertRaise a s).channels = s.channels ∧
    (alertRaise a s).conditions = s.conditions ∧ (alertRaise a s).capture = s.capture ∧
    (alertRaise a s).pending = s.pending := by
  simp only [alertRaise]
  repeat' split
  all_goals simp

@[simp] theorem alertFrameCompletion_frame (s : State) :
    (alertFrameCompletion s).timer = s.timer ∧ (alertFrameCompletion s).lanes = s.lanes ∧
    (alertFrameCompletion s).channels = s.channels ∧ (alertFrameCompletion s).conditions = s.conditions ∧
    (alertFrameCompletion s).capture = s.capture ∧ (alertFrameCompletion s).pending = s.pending := by
  simp only [alertFrameCompletion]
  repeat' split
  all_goals simp

@[simp] theorem reAnnounceTimerExpiry_frame (s : State) :
    (reAnnounceTimerExpiry s).timer = s.timer ∧ (reAnnounceTimerExpiry s).lanes = s.lanes ∧
    (reAnnounceTimerExpiry s).channels = s.channels ∧ (reAnnounceTimerExpiry s).conditions = s.conditions ∧
    (reAnnounceTimerExpiry s).capture = s.capture ∧ (reAnnounceTimerExpiry s).pending = s.pending := by
  simp only [reAnnounceTimerExpiry]
  repeat' split
  all_goals simp

@[simp] theorem signalDetected_frame (s : State) :
    (signalDetected s).timer = s.timer ∧ (signalDetected s).lanes = s.lanes ∧
    (signalDetected s).channels = s.channels ∧ (signalDetected s).conditions = s.conditions ∧
    (signalDetected s).capture = s.capture ∧ (signalDetected s).delivery = s.delivery ∧
    (signalDetected s).stream = s.stream ∧ (signalDetected s).alerts = s.alerts ∧
    (signalDetected s).mgmt = s.mgmt ∧ (signalDetected s).pending = s.pending := by
  simp only [signalDetected]
  repeat' split
  all_goals simp

@[simp] theorem linkLossOfSignal_frame (s : State) :
    (linkLossOfSignal s).timer = s.timer ∧ (linkLossOfSignal s).lanes = s.lanes ∧
    (linkLossOfSignal s).channels = s.channels ∧ (linkLossOfSignal s).conditions = s.conditions ∧
    (linkLossOfSignal s).capture = s.capture ∧ (linkLossOfSignal s).pending = s.pending := by
  simp only [linkLossOfSignal]
  repeat' split
  all_goals simp

@[simp] theorem trainFrame_frame (s : State) :
    (trainFrame s).timer = s.timer ∧ (trainFrame s).lanes = s.lanes ∧ (trainFrame s).channels = s.channels ∧
    (trainFrame s).conditions = s.conditions ∧ (trainFrame s).capture = s.capture ∧
    (trainFrame s).delivery = s.delivery ∧ (trainFrame s).stream = s.stream ∧ (trainFrame s).alerts = s.alerts ∧
    (trainFrame s).mgmt = s.mgmt ∧ (trainFrame s).pending = s.pending := by
  simp only [trainFrame]
  repeat' split
  all_goals simp

@[simp] theorem badFrame_frame (s : State) :
    (badFrame s).timer = s.timer ∧ (badFrame s).lanes = s.lanes ∧ (badFrame s).channels = s.channels ∧
    (badFrame s).conditions = s.conditions ∧ (badFrame s).capture = s.capture ∧ (badFrame s).pending = s.pending := by
  simp only [badFrame]
  repeat' split
  all_goals simp

@[simp] theorem requestFrame_frame (tag : Byte) (body : List Byte) (s : State) :
    (requestFrame tag body s).timer = s.timer ∧ (requestFrame tag body s).lanes = s.lanes ∧
    (requestFrame tag body s).channels = s.channels ∧ (requestFrame tag body s).conditions = s.conditions ∧
    (requestFrame tag body s).capture = s.capture ∧ (requestFrame tag body s).pending = s.pending := by
  simp only [requestFrame]
  repeat' split
  all_goals simp

@[simp] theorem creditFrame_frame (c : Byte) (s : State) :
    (creditFrame c s).timer = s.timer ∧ (creditFrame c s).lanes = s.lanes ∧
    (creditFrame c s).channels = s.channels ∧ (creditFrame c s).conditions = s.conditions ∧
    (creditFrame c s).capture = s.capture ∧ (creditFrame c s).pending = s.pending := by
  simp only [creditFrame]
  repeat' split
  all_goals simp

@[simp] theorem transmissionCompletion_frame (b : Bool) (s : State) :
    (transmissionCompletion b s).timer = s.timer ∧ (transmissionCompletion b s).lanes = s.lanes ∧
    (transmissionCompletion b s).channels = s.channels ∧ (transmissionCompletion b s).conditions = s.conditions ∧
    (transmissionCompletion b s).pending = s.pending := by
  simp only [transmissionCompletion]
  repeat' split
  all_goals simp

@[simp] theorem requestArrival_frame (s : State) :
    (requestArrival s).timer = s.timer ∧ (requestArrival s).lanes = s.lanes ∧
    (requestArrival s).channels = s.channels ∧ (requestArrival s).conditions = s.conditions ∧
    (requestArrival s).capture = s.capture ∧ (requestArrival s).delivery = s.delivery ∧
    (requestArrival s).stream = s.stream ∧ (requestArrival s).link = s.link ∧
    (requestArrival s).pending = s.pending := by
  simp only [requestArrival]
  repeat' split
  all_goals simp

@[simp] theorem replyCompletion_frame (s : State) :
    (replyCompletion s).timer = s.timer ∧ (replyCompletion s).lanes = s.lanes ∧
    (replyCompletion s).channels = s.channels ∧ (replyCompletion s).conditions = s.conditions ∧
    (replyCompletion s).capture = s.capture ∧ (replyCompletion s).delivery = s.delivery ∧
    (replyCompletion s).stream = s.stream ∧ (replyCompletion s).alerts = s.alerts ∧
    (replyCompletion s).link = s.link ∧ (replyCompletion s).pending = s.pending := by
  simp only [replyCompletion]
  repeat' split
  all_goals simp

@[simp] theorem linkLossManagement_frame (s : State) :
    (linkLossManagement s).timer = s.timer ∧ (linkLossManagement s).lanes = s.lanes ∧
    (linkLossManagement s).channels = s.channels ∧ (linkLossManagement s).conditions = s.conditions ∧
    (linkLossManagement s).capture = s.capture ∧ (linkLossManagement s).delivery = s.delivery ∧
    (linkLossManagement s).stream = s.stream ∧ (linkLossManagement s).alerts = s.alerts ∧
    (linkLossManagement s).pending = s.pending := by
  simp only [linkLossManagement]
  repeat' split
  all_goals simp

@[simp] theorem linkLossDelivery_frame (s : State) :
    (linkLossDelivery s).timer = s.timer ∧ (linkLossDelivery s).lanes = s.lanes ∧
    (linkLossDelivery s).channels = s.channels ∧ (linkLossDelivery s).conditions = s.conditions ∧
    (linkLossDelivery s).stream = s.stream ∧ (linkLossDelivery s).alerts = s.alerts ∧
    (linkLossDelivery s).mgmt = s.mgmt ∧ (linkLossDelivery s).pending = s.pending := by
  simp only [linkLossDelivery]
  repeat' split
  all_goals simp

@[simp] theorem linkLossStream_frame (s : State) :
    (linkLossStream s).timer = s.timer ∧ (linkLossStream s).lanes = s.lanes ∧
    (linkLossStream s).channels = s.channels ∧ (linkLossStream s).conditions = s.conditions ∧
    (linkLossStream s).capture = s.capture ∧ (linkLossStream s).delivery = s.delivery ∧
    (linkLossStream s).alerts = s.alerts ∧ (linkLossStream s).mgmt = s.mgmt ∧
    (linkLossStream s).pending = s.pending := by
  simp only [linkLossStream]
  repeat' split
  all_goals simp

@[simp] theorem linkLossAlert_frame (s : State) :
    (linkLossAlert s).timer = s.timer ∧ (linkLossAlert s).lanes = s.lanes ∧
    (linkLossAlert s).channels = s.channels ∧ (linkLossAlert s).conditions = s.conditions ∧
    (linkLossAlert s).capture = s.capture ∧ (linkLossAlert s).pending = s.pending := by
  simp only [linkLossAlert]
  repeat' split
  all_goals simp

@[simp] theorem softResetDone_frame (s : State) :
    (softResetDone s).timer = s.timer ∧ (softResetDone s).lanes = s.lanes ∧
    (softResetDone s).channels = s.channels ∧ (softResetDone s).conditions = s.conditions ∧
    (softResetDone s).capture = s.capture ∧ (softResetDone s).pending = s.pending := by
  simp only [softResetDone]
  repeat' split
  all_goals simp

@[simp] theorem resetTimer_frame (s : State) :
    (resetTimer s).capture = s.capture ∧ (resetTimer s).delivery = s.delivery ∧ (resetTimer s).stream = s.stream ∧
    (resetTimer s).alerts = s.alerts ∧ (resetTimer s).link = s.link ∧ (resetTimer s).pending = s.pending := by
  simp only [resetTimer]
  repeat' split
  all_goals simp

@[simp] theorem resetChannels_frame (s : State) :
    (resetChannels s).timer = s.timer ∧ (resetChannels s).lanes = s.lanes ∧
    (resetChannels s).conditions = s.conditions ∧ (resetChannels s).capture = s.capture ∧
    (resetChannels s).delivery = s.delivery ∧ (resetChannels s).stream = s.stream ∧
    (resetChannels s).alerts = s.alerts ∧ (resetChannels s).link = s.link ∧ (resetChannels s).mgmt = s.mgmt ∧
    (resetChannels s).pending = s.pending := by
  simp only [resetChannels]
  simp

@[simp] theorem resetConditions_frame (s : State) :
    (resetConditions s).timer = s.timer ∧ (resetConditions s).lanes = s.lanes ∧
    (resetConditions s).channels = s.channels ∧ (resetConditions s).delivery = s.delivery ∧
    (resetConditions s).stream = s.stream ∧ (resetConditions s).alerts = s.alerts ∧
    (resetConditions s).link = s.link ∧ (resetConditions s).pending = s.pending := by
  simp only [resetConditions]
  simp

@[simp] theorem resetCapture_frame (s : State) :
    (resetCapture s).timer = s.timer ∧ (resetCapture s).lanes = s.lanes ∧ (resetCapture s).channels = s.channels ∧
    (resetCapture s).conditions = s.conditions ∧ (resetCapture s).delivery = s.delivery ∧
    (resetCapture s).stream = s.stream ∧ (resetCapture s).alerts = s.alerts ∧ (resetCapture s).link = s.link ∧
    (resetCapture s).mgmt = s.mgmt ∧ (resetCapture s).pending = s.pending := by
  simp only [resetCapture]
  simp

@[simp] theorem resetDelivery_frame (s : State) :
    (resetDelivery s).timer = s.timer ∧ (resetDelivery s).lanes = s.lanes ∧
    (resetDelivery s).channels = s.channels ∧ (resetDelivery s).conditions = s.conditions ∧
    (resetDelivery s).capture = s.capture ∧ (resetDelivery s).stream = s.stream ∧
    (resetDelivery s).alerts = s.alerts ∧ (resetDelivery s).mgmt = s.mgmt ∧ (resetDelivery s).pending = s.pending := by
  simp only [resetDelivery]
  simp

@[simp] theorem resetStream_frame (s : State) :
    (resetStream s).timer = s.timer ∧ (resetStream s).lanes = s.lanes ∧ (resetStream s).channels = s.channels ∧
    (resetStream s).conditions = s.conditions ∧ (resetStream s).capture = s.capture ∧
    (resetStream s).delivery = s.delivery ∧ (resetStream s).alerts = s.alerts ∧ (resetStream s).mgmt = s.mgmt ∧
    (resetStream s).pending = s.pending := by
  simp only [resetStream]
  simp

@[simp] theorem resetAlerts_frame (s : State) :
    (resetAlerts s).timer = s.timer ∧ (resetAlerts s).lanes = s.lanes ∧ (resetAlerts s).channels = s.channels ∧
    (resetAlerts s).conditions = s.conditions ∧ (resetAlerts s).capture = s.capture ∧
    (resetAlerts s).delivery = s.delivery ∧ (resetAlerts s).stream = s.stream ∧ (resetAlerts s).mgmt = s.mgmt ∧
    (resetAlerts s).pending = s.pending := by
  simp only [resetAlerts]
  simp

end Sys2Proof.Machine
end

