-- ==== Sys2Proof/Laws/Effects.lean ====
section
/-! SUPPORT. What each shared operation does to the block it works on, said once. With the frames of Untouched.lean these
are all a proof needs of the operations below. -/

namespace Sys2Proof.Machine

/-! ### Raises and alerts -/

@[simp] theorem raise_alerts (a : AlertSource) (s : State) :
    (raise a s).alerts = { s.alerts with raises := s.alerts.raises ++ [a] } := rfl

@[simp] theorem settleAlerts_alerts (s : State) :
    (settleAlerts s).alerts = s.alerts.settle s.mgmt.control.alerts := rfl

/-- The rule of R137 and R141 moves the offer alone. -/
theorem AlertUnit.settle_eq (enable : AlertSet) (a : AlertUnit) :
    a.settle enable = { a with
      offer := if a.state = .quiet ∧ a.offer = .none ∧ a.pending &&& enable ≠ 0 then .newAlert .offered
        else if a.offer = .newAlert .offered ∧ a.pending &&& enable = 0 then .none
        else a.offer } := by
  change AlertUnit.settle enable a = { a with
      offer := if a.state = .quiet ∧ a.offer = .none ∧ a.reportable enable ≠ 0 then .newAlert .offered
        else if a.offer = .newAlert .offered ∧ a.reportable enable = 0 then .none
        else a.offer }
  unfold AlertUnit.settle
  split
  · rfl
  · split <;> rfl

theorem lossTakenFirst_iff (s : State) :
    lossTakenFirst s = true ↔ s.alerts.inbox.count .linkLoss < s.mgmt.inbox.count .linkLoss := decide_eq_true_iff

/-! ### Reports of the Link Controller and frames given up -/

@[simp] theorem giveUpFrames_link (src : Source) (s : State) : (giveUpFrames src s).link = s.link.giveUp src := by
  cases src <;> rfl

@[simp] theorem giveUpFrames_mgmt (s : State) :
    (giveUpFrames .reply s).mgmt = { s.mgmt with inbox := s.mgmt.inbox.map LinkReport.voided } := rfl

@[simp] theorem giveUpFrames_alerts (s : State) :
    (giveUpFrames .alert s).alerts = { s.alerts with inbox := s.alerts.inbox.map LinkReport.voided } := rfl

@[simp] theorem giveUpFrames_drain (s : State) :
    (giveUpFrames .delivery s).delivery = { s.delivery with inbox := s.delivery.inbox.map LinkReport.voided } := rfl

@[simp] theorem giveUpFrames_queue (s : State) :
    (giveUpFrames .stream s).stream = { s.stream with inbox := s.stream.inbox.map LinkReport.voided } := rfl

@[simp] theorem enterDown_link (s : State) :
    (enterDown s).link = { state := .down, trainRun := 0, badRun := 0, credit := 0, tx := none } := rfl

@[simp] theorem enterDown_mgmt (s : State) :
    (enterDown s).mgmt = { s.mgmt with inbox := s.mgmt.inbox ++ [.linkLoss] } := rfl

@[simp] theorem enterDown_alerts (s : State) :
    (enterDown s).alerts = { s.alerts with inbox := s.alerts.inbox ++ [.linkLoss] } := rfl

@[simp] theorem enterDown_delivery (s : State) :
    (enterDown s).delivery = { s.delivery with inbox := s.delivery.inbox ++ [.linkLoss] } := rfl

@[simp] theorem enterDown_stream (s : State) :
    (enterDown s).stream = { s.stream with inbox := s.stream.inbox ++ [.linkLoss] } := rfl

@[simp] theorem grant_link (c : Byte) (s : State) :
    (grant c s).link = { s.link with credit := min Config.creditMax (s.link.credit + c.toNat) } := by
  simp only [grant]
  split <;> simp

/-! ### Epochs -/

/-- No command but an opening or a close moves the timer's own fields; the close of epoch `n` sets these. -/
theorem closeEpoch_timer {s : State} {n : Epoch} (h : s.timer.openEpoch = some n) (c : CloseCause) :
    (closeEpoch c s).timer = { s.timer with openEpoch := none, lastClosed := some n, participating := 0 } := by
  simp only [closeEpoch, h]
  split <;> simp

theorem closeEpoch_lanes {s : State} {n : Epoch} (h : s.timer.openEpoch = some n) (c : CloseCause) :
    (closeEpoch c s).lanes = emptyReceived s.lanes := by
  simp only [closeEpoch, h]
  split <;> simp

theorem closeEpoch_none {s : State} (h : s.timer.openEpoch = none) (c : CloseCause) : closeEpoch c s = s := by
  simp [closeEpoch, h]

theorem recordClose_openValues (n : Epoch) (s : State) :
    (recordClose n s).channels.openValues = Vector.replicate 16 none := by
  simp only [recordClose]
  split <;> simp [afterBuild]

theorem recordClose_table (n : Epoch) (s : State) : (recordClose n s).channels.table = s.channels.table := by
  simp only [recordClose]
  split <;> simp [afterBuild]

theorem closeEpoch_table (c : CloseCause) (s : State) : (closeEpoch c s).channels.table = s.channels.table := by
  cases h : s.timer.openEpoch with
  | none => rw [closeEpoch_none h]
  | some n =>
    simp only [closeEpoch, h]
    split <;> simp [recordClose_table]

theorem closeEpoch_openValues {s : State} {n : Epoch} (h : s.timer.openEpoch = some n) (c : CloseCause) :
    (closeEpoch c s).channels.openValues = Vector.replicate 16 none := by
  simp only [closeEpoch, h]
  split <;> simp [recordClose_openValues]

/-- An offered record reaches the Condition Engine unless the engine has already taken a soft reset the timer has not. -/
theorem offerRecord_conditions (r : EpochRecord) (s : State) :
    (offerRecord r s).conditions = { s.conditions with records := s.conditions.records ++
      if s.conditions.resetsTaken ≤ s.timer.resetsTaken then [{ run := s.timer.resetsTaken, record := r }] else [] } := by
  simp only [offerRecord]
  by_cases h : s.conditions.resetsTaken ≤ s.timer.resetsTaken
  · rw [if_pos h, if_pos h]
    repeat' split
    all_goals rfl
  · rw [if_neg h, if_neg h, List.append_nil]
    repeat' split
    all_goals rfl

/-- The same for the Capture Controller. -/
theorem offerRecord_capture (r : EpochRecord) (s : State) :
    (offerRecord r s).capture = { s.capture with records := s.capture.records ++
      if s.capture.resetsTaken ≤ s.timer.resetsTaken then [{ run := s.timer.resetsTaken, record := r }] else [] } := by
  simp only [offerRecord]
  by_cases h : s.capture.resetsTaken ≤ s.timer.resetsTaken <;> by_cases hc : s.conditions.resetsTaken ≤ s.timer.resetsTaken <;>
    by_cases hs : s.stream.resetsTaken ≤ s.timer.resetsTaken <;> simp [h, hc, hs]

/-- The same for the Stream Forwarder. -/
theorem offerRecord_stream (r : EpochRecord) (s : State) :
    (offerRecord r s).stream = { s.stream with records := s.stream.records ++
      if s.stream.resetsTaken ≤ s.timer.resetsTaken then [{ run := s.timer.resetsTaken, record := r }] else [] } := by
  simp only [offerRecord]
  by_cases h : s.capture.resetsTaken ≤ s.timer.resetsTaken <;> by_cases hc : s.conditions.resetsTaken ≤ s.timer.resetsTaken <;>
    by_cases hs : s.stream.resetsTaken ≤ s.timer.resetsTaken <;> simp [h, hc, hs]

/-- The completeness test closes an open epoch with no missing word, and does nothing else (R7). -/
theorem completenessTest_cases (s : State) :
    (completenessTest s = s ∧ (s.timer.openEpoch.isSome → missingWord s = true)) ∨
    (s.timer.openEpoch.isSome = true ∧ missingWord s = false ∧ completenessTest s = closeEpoch .complete s) := by
  unfold completenessTest
  split
  · next h => exact .inr ⟨h.1, by simpa using h.2, rfl⟩
  · next h =>
    refine .inl ⟨rfl, fun ho => ?_⟩
    by_cases hm : missingWord s = true
    · exact hm
    · exact absurd ⟨ho, hm⟩ h

/-! ### The stream and the soft reset -/

/-- What the Stream Forwarder reads of a channel is what some waiting reload's write replaced, when the next record was
built before that write, or else the channel table's entry (R115, R116). -/
theorem viewOf_cases (table : Table ChannelEntry 16) (reloads : List Reload) (c : Fin 16) :
    (∃ r ∈ reloads, r.channel = c ∧ r.before ≠ 0 ∧ viewOf table reloads c = r.replaced) ∨
    ((∀ r ∈ reloads, r.channel = c → r.before = 0) ∧ viewOf table reloads c = table[c].streamView) := by
  unfold viewOf
  split
  · next r h =>
    have hp := List.find?_some h
    simp only [Bool.and_eq_true, beq_iff_eq, bne_iff_ne, ne_eq] at hp
    exact .inl ⟨r, List.mem_of_find?_eq_some h, hp.1, hp.2, rfl⟩
  · next h =>
    refine .inr ⟨fun r hr hc => ?_, rfl⟩
    simpa [hc] using List.find?_eq_none.mp h r hr

/-- A commit cancelled: none is pending, and a deferred reply is dropped and no longer counted (R132). -/
theorem cancelCommit_eq (s : State) :
    cancelCommit s = { s with
      conditions := { s.conditions with commit := .none }
      mgmt := { s.mgmt with
        deferred := none
        unanswered := s.mgmt.unanswered - s.mgmt.deferred.toList.length } } := by
  cases h : s.mgmt.deferred with
  | none => simp [cancelCommit, dropDeferred, State.setConditions, h]; simp [← h]
  | some tag => simp [cancelCommit, dropDeferred, State.setConditions, State.setMgmt, h]

/-! ### Units -/

@[simp] theorem putUnit_units (u : Fin 4) (r : UnitRuntime) (s : State) :
    (putUnit u r s).capture = { s.capture with units := Table.put s.capture.units u r } := rfl

@[simp] theorem abortUnit_capture (u : Fin 4) (s : State) :
    (abortUnit u s).capture = { s.capture with
      units := Table.put s.capture.units u UnitRuntime.cleared
      drainQueue := s.capture.drainQueue.filter fun v => v != u } := rfl

theorem putFrozen_capture (u : Fin 4) (r : UnitRuntime) (s : State) :
    (putFrozen u r s).capture = { s.capture with
      units := Table.put s.capture.units u r
      drainQueue := if r.state = .held then s.capture.drainQueue ++ [u] else s.capture.drainQueue } := by
  simp only [putFrozen]
  split <;> simp

/-- A fire moves only the unit it is addressed to, and the drain queue when that unit freezes (R84). -/
@[simp] theorem returnAnswer_capture (f : FireRequest) (a : Answer) (s : State) :
    (returnAnswer f a s).capture = s.capture := by
  unfold returnAnswer
  split <;> simp

/-- A unit replaced, joining the drain queue when it has just frozen (R91). -/
theorem putFrozen_eq (u : Fin 4) (r : UnitRuntime) (s : State) :
    putFrozen u r s = { s with capture := { s.capture with
      units := Table.put s.capture.units u r
      drainQueue := s.capture.drainQueue ++ if r.state = .held then [u] else [] } } := by
  by_cases h : r.state = .held <;> simp [putFrozen, putUnit, State.setCapture, h]

/-- An answer returned joins the answers, unless the Condition Engine has taken a reset the unit's side has not. -/
theorem returnAnswer_eq (f : FireRequest) (a : Answer) (s : State) :
    returnAnswer f a s = { s with conditions := { s.conditions with answers := s.conditions.answers ++
      if s.conditions.resetsTaken ≤ s.capture.resetsTaken then
        [{ trigger := f.trigger, answer := a, waiter := f.waiter }]
      else [] } } := by
  by_cases h : s.conditions.resetsTaken ≤ s.capture.resetsTaken <;> simp [returnAnswer, State.setConditions, h]

/-- A fire sent joins the fire requests, unless the Capture Controller has taken a reset the engine has not. -/
theorem sendFire_eq (f : FireRequest) (s : State) :
    sendFire f s = { s with capture := { s.capture with fires := s.capture.fires ++
      if s.capture.resetsTaken ≤ s.conditions.resetsTaken then [f] else [] } } := by
  by_cases h : s.capture.resetsTaken ≤ s.conditions.resetsTaken <;> simp [sendFire, State.setCapture, h]

/-- A unit's step over a record changes that unit, and the drain queue when the unit freezes (R78, R91). -/
theorem unitStep_eq (rec : EpochRecord) (s : State) (u : Fin 4) :
    unitStep rec s u = { s with capture := { s.capture with
      units := Table.put s.capture.units u (unitTakes s.capture.configs[u] rec s.capture.units[u])
      drainQueue := s.capture.drainQueue ++
        if s.capture.units[u].state = .post ∧ (unitTakes s.capture.configs[u] rec s.capture.units[u]).state = .held
        then [u] else [] } } := by
  by_cases h : s.capture.units[u].state = .post <;> simp at h <;> simp [unitStep, putFrozen_eq, putUnit, State.setCapture, h]

/-- The steps of distinct units touch distinct units: each sees its own runtime as it was before the record. -/
theorem unitSteps_eq (rec : EpochRecord) (us : List (Fin 4)) (s : State) (hn : us.Nodup) :
    us.foldl (unitStep rec) s = { s with capture := { s.capture with
      units := Vector.ofFn fun u : Fin 4 =>
        if u ∈ us then unitTakes s.capture.configs[u] rec s.capture.units[u] else s.capture.units[u]
      drainQueue := s.capture.drainQueue ++ us.filter fun u => s.capture.units[u].state = .post ∧
        (unitTakes s.capture.configs[u] rec s.capture.units[u]).state = .held } } := by
  induction us generalizing s with
  | nil => simp
  | cons u us ih =>
    simp only [List.nodup_cons] at hn
    have hne : ∀ v ∈ us, v ≠ u := fun v hv he => hn.1 (he ▸ hv)
    rw [List.foldl_cons, unitStep_eq, ih _ hn.2]
    have hu : ∀ v : Fin 4, (if v ∈ us then
          unitTakes s.capture.configs[v] rec (Table.put s.capture.units u (unitTakes s.capture.configs[u] rec s.capture.units[u]))[v]
        else (Table.put s.capture.units u (unitTakes s.capture.configs[u] rec s.capture.units[u]))[v]) =
        if v ∈ u :: us then unitTakes s.capture.configs[v] rec s.capture.units[v] else s.capture.units[v] := by
      intro v
      by_cases hv : v = u
      · subst hv
        simp [hn.1]
      · simp [hv]
    have hf : (us.filter fun v => decide (
          (Table.put s.capture.units u (unitTakes s.capture.configs[u] rec s.capture.units[u]))[v].state = .post ∧
          (unitTakes s.capture.configs[v] rec
            (Table.put s.capture.units u (unitTakes s.capture.configs[u] rec s.capture.units[u]))[v]).state = .held)) =
        us.filter fun v => s.capture.units[v].state = .post ∧
          (unitTakes s.capture.configs[v] rec s.capture.units[v]).state = .held := by
      apply List.filter_congr
      intro v hv
      simp [hne v hv]
    dsimp only at hu hf ⊢
    simp only [hu, hf, List.filter_cons, decide_eq_true_eq, List.append_assoc]
    split <;> simp

/-- The taking of a record by the four units (R78, R91). -/
theorem unitsTake_eq (rec : EpochRecord) (s : State) :
    unitsTake rec s = { s with capture := { s.capture with
      units := Vector.ofFn fun u : Fin 4 => unitTakes s.capture.configs[u] rec s.capture.units[u]
      drainQueue := s.capture.drainQueue ++ (List.finRange 4).filter fun u => s.capture.units[u].state = .post ∧
        (unitTakes s.capture.configs[u] rec s.capture.units[u]).state = .held } } := by
  rw [unitsTake, unitSteps_eq _ _ _ (List.nodup_finRange 4)]
  simp only [List.mem_finRange, if_true]

/-! ### Triggers and banks -/

@[simp] theorem putTrigger_conditions (t : Fin 8) (r : TriggerRuntime) (s : State) :
    (putTrigger t r s).conditions = { s.conditions with triggers := Table.put s.conditions.triggers t r } := rfl

/-- A fire sent to the Capture Controller changes its fire requests alone. -/
theorem sendFire_capture (f : FireRequest) (s : State) :
    (sendFire f s).capture = { s.capture with fires := (sendFire f s).capture.fires } := by
  unfold sendFire
  split <;> simp

/-- The handling of a walk fire leaves the banks, the commit state and the generation (R56). -/
theorem handleFire_conditions (n : Epoch) (s : State) (t : Fin 8) :
    (handleFire n s t).conditions = { s.conditions with triggers := (handleFire n s t).conditions.triggers } := by
  simp only [handleFire]
  repeat' split
  all_goals simp

theorem handleFires_conditions (n : Epoch) (ts : List (Fin 8)) (s : State) :
    (ts.foldl (handleFire n) s).conditions =
      { s.conditions with triggers := (ts.foldl (handleFire n) s).conditions.triggers } := by
  induction ts generalizing s with
  | nil => rfl
  | cons t ts ih =>
    rw [List.foldl_cons, ih, handleFire_conditions]

theorem handleFire_capture (n : Epoch) (s : State) (t : Fin 8) :
    (handleFire n s t).capture = { s.capture with fires := (handleFire n s t).capture.fires } := by
  simp only [handleFire]
  split
  · simp
  · split
    · simp
    · rw [sendFire_capture]; simp

theorem handleFires_capture (n : Epoch) (ts : List (Fin 8)) (s : State) :
    (ts.foldl (handleFire n) s).capture =
      { s.capture with fires := (ts.foldl (handleFire n) s).capture.fires } := by
  induction ts generalizing s with
  | nil => rfl
  | cons t ts ih =>
    rw [List.foldl_cons, ih, handleFire_capture]

/-- A pending commit is swapped and its deferred reply, if the slot holds one, queued; without one nothing happens. -/
theorem swapPending_cases (e : Epoch) (s : State) :
    (s.conditions.commit = .none ∧ swapPending e s = s) ∨
    (s.conditions.commit = .pending ∧ (swapPending e s).conditions = swapBanks s.conditions ∧
      ((s.mgmt.deferred = none ∧ (swapPending e s).mgmt = s.mgmt) ∨
       ∃ tag, s.mgmt.deferred = some tag ∧ (swapPending e s).mgmt = { s.mgmt with
         deferred := none
         replies := s.mgmt.replies ++ [commitReply tag (s.conditions.generation + 1) e] })) := by
  unfold swapPending
  split
  · next h => exact .inl ⟨h, rfl⟩
  · next h =>
    refine .inr ⟨h, ?_⟩
    unfold releaseDeferred
    split
    · next hd => simp_all
    · next tag hd => simp_all [queueReply, swapBanks]

end Sys2Proof.Machine
end

