-- ==== Sys2Proof/Laws/Exec.lean ====
section
/-! SUPPORT. What `exec` answers for each command, in the words of its block's operation: every command completes. -/

namespace Sys2Proof.Machine

variable (s : State)

@[simp] theorem exec_coldReset : exec .coldReset s = .next (coldReset s) := rfl
@[simp] theorem exec_epochStart : exec .epochStart s = .next (execHead .epochStart epochStart s) := rfl
@[simp] theorem exec_epochStop : exec .epochStop s = .next (execHead .epochStop epochStop s) := rfl
@[simp] theorem exec_periodExpiry : exec .periodExpiry s = .next (periodExpiry s) := rfl
@[simp] theorem exec_laneWord (lane : Fin 4) (tag : BitVec 4) (slot : Fin 8) (raw : BitVec 16) :
    exec (.laneWord lane tag slot raw) s = .next (laneWord lane tag slot raw s) := rfl
@[simp] theorem exec_alignmentMark (lane : Fin 4) : exec (.alignmentMark lane) s = .next (alignmentMark lane s) := rfl
@[simp] theorem exec_badSymbol (lane : Fin 4) : exec (.badSymbol lane) s = .next (badSymbol lane s) := rfl
@[simp] theorem exec_laneLossOfSignal (lane : Fin 4) :
    exec (.laneLossOfSignal lane) s = .next (laneLossOfSignal lane s) := rfl
@[simp] theorem exec_walk : exec .walk s = .next (walk s) := rfl
@[simp] theorem exec_fireRequest : exec .fireRequest s = .next (fireRequest s) := rfl
@[simp] theorem exec_fireAnswer : exec .fireAnswer s = .next (fireAnswer s) := rfl
@[simp] theorem exec_captureRecordTake : exec .captureRecordTake s = .next (captureRecordTake s) := rfl
@[simp] theorem exec_streamRecordTake : exec .streamRecordTake s = .next (streamRecordTake s) := rfl
@[simp] theorem exec_decimationReload : exec .decimationReload s = .next (decimationReload s) := rfl
@[simp] theorem exec_streamFrameCompletion : exec .streamFrameCompletion s = .next (streamFrameCompletion s) := rfl
@[simp] theorem exec_drainStart : exec .drainStart s = .next (drainStart s) := rfl
@[simp] theorem exec_captureFrameCompletion : exec .captureFrameCompletion s = .next (captureFrameCompletion s) := rfl
@[simp] theorem exec_alertRaise (source : AlertSource) :
    exec (.alertRaise source) s = .next (alertRaise source s) := rfl
@[simp] theorem exec_alertFrameCompletion : exec .alertFrameCompletion s = .next (alertFrameCompletion s) := rfl
@[simp] theorem exec_reAnnounceTimerExpiry : exec .reAnnounceTimerExpiry s = .next (reAnnounceTimerExpiry s) := rfl
@[simp] theorem exec_signalDetected : exec .signalDetected s = .next (signalDetected s) := rfl
@[simp] theorem exec_linkLossOfSignal : exec .linkLossOfSignal s = .next (linkLossOfSignal s) := rfl
@[simp] theorem exec_trainFrame : exec .trainFrame s = .next (trainFrame s) := rfl
@[simp] theorem exec_requestFrame (tag : Byte) (body : List Byte) :
    exec (.requestFrame tag body) s = .next (requestFrame tag body s) := rfl
@[simp] theorem exec_creditFrame (count : Byte) : exec (.creditFrame count) s = .next (creditFrame count s) := rfl
@[simp] theorem exec_badFrame : exec .badFrame s = .next (badFrame s) := rfl
@[simp] theorem exec_transmissionCompletion (sourceFirst : Bool) :
    exec (.transmissionCompletion sourceFirst) s = .next (transmissionCompletion sourceFirst s) := rfl
@[simp] theorem exec_requestArrival : exec .requestArrival s = .next (requestArrival s) := rfl
@[simp] theorem exec_replyCompletion : exec .replyCompletion s = .next (replyCompletion s) := rfl
@[simp] theorem exec_linkLossManagement : exec .linkLossManagement s = .next (linkLossManagement s) := rfl
@[simp] theorem exec_linkLossDelivery : exec .linkLossDelivery s = .next (linkLossDelivery s) := rfl
@[simp] theorem exec_linkLossStream : exec .linkLossStream s = .next (linkLossStream s) := rfl
@[simp] theorem exec_linkLossAlert : exec .linkLossAlert s = .next (linkLossAlert s) := rfl
@[simp] theorem exec_read : exec .read s = .next (execHead .read read s) := rfl
@[simp] theorem exec_readChannelRuntime :
    exec .readChannelRuntime s = .next (execHead .readChannelRuntime readChannelRuntime s) := rfl
@[simp] theorem exec_write : exec .write s = .next (execHead .write write s) := rfl
@[simp] theorem exec_writeControl : exec .writeControl s = .next (execHead .writeControl writeControl s) := rfl
@[simp] theorem exec_writeChannel : exec .writeChannel s = .next (execHead .writeChannel writeChannel s) := rfl
@[simp] theorem exec_writeLevel : exec .writeLevel s = .next (execHead .writeLevel writeLevel s) := rfl
@[simp] theorem exec_writeCondition :
    exec .writeCondition s = .next (execHead .writeCondition writeCondition s) := rfl
@[simp] theorem exec_writeTrigger : exec .writeTrigger s = .next (execHead .writeTrigger writeTrigger s) := rfl
@[simp] theorem exec_writeUnit : exec .writeUnit s = .next (execHead .writeUnit writeUnit s) := rfl
@[simp] theorem exec_commit : exec .commit s = .next (execHead .commit commit s) := rfl
@[simp] theorem exec_discardEdits : exec .discardEdits s = .next (execHead .discardEdits discardEdits s) := rfl
@[simp] theorem exec_arm : exec .arm s = .next (execHead .arm arm s) := rfl
@[simp] theorem exec_abort : exec .abort s = .next (execHead .abort abort s) := rfl
@[simp] theorem exec_release : exec .release s = .next (execHead .release release s) := rfl
@[simp] theorem exec_replay : exec .replay s = .next (execHead .replay replay s) := rfl
@[simp] theorem exec_fire : exec .fire s = .next (execHead .fire fire s) := rfl
@[simp] theorem exec_alertAck : exec .alertAck s =
    .next (if lossTakenFirst s then s else execHead .alertAck alertAck s) := rfl
@[simp] theorem exec_status : exec .status s = .next (execHead .status status s) := rfl
@[simp] theorem exec_unknownKind : exec .unknownKind s = .next (execHead .unknownKind unknownKind s) := rfl
@[simp] theorem exec_reset : exec .reset s = .next (execHead .reset resetRequest s) := rfl
@[simp] theorem exec_softResetDone : exec .softResetDone s = .next (softResetDone s) := rfl
@[simp] theorem exec_softResetEpochTimer :
    exec .softResetEpochTimer s = .next (takeReset s.timer.resetsTaken resetTimer s) := rfl
@[simp] theorem exec_softResetChannelProcessor :
    exec .softResetChannelProcessor s = .next (takeReset s.channels.resetsTaken resetChannels s) := rfl
@[simp] theorem exec_softResetConditionEngine :
    exec .softResetConditionEngine s = .next (takeReset s.conditions.resetsTaken resetConditions s) := rfl
@[simp] theorem exec_softResetCaptureController :
    exec .softResetCaptureController s = .next (takeReset s.capture.resetsTaken resetCapture s) := rfl
@[simp] theorem exec_softResetDeliveryEngine :
    exec .softResetDeliveryEngine s = .next (takeReset s.delivery.resetsTaken resetDelivery s) := rfl
@[simp] theorem exec_softResetStreamForwarder :
    exec .softResetStreamForwarder s = .next (takeReset s.stream.resetsTaken resetStream s) := rfl
@[simp] theorem exec_softResetAlertUnit :
    exec .softResetAlertUnit s = .next (takeReset s.alerts.resetsTaken resetAlerts s) := rfl

end Sys2Proof.Machine
end

