-- ==== Sys2Proof/Laws/Kept.lean ====
section
/-! SUPPORT. For each shared operation, the fields it leaves as they were of a block it touches only in part. Each lemma is
a conjunction of one equation per field, which simp uses as so many rewrites; with Untouched.lean they are the frames of
the operations. -/

namespace Sys2Proof.Machine

/-! ### The arbiter, reports and frames given up -/

@[simp] theorem markStarted_mgmt_kept (src : Source) (s : State) :
    (markStarted src s).mgmt.requests = s.mgmt.requests ∧ (markStarted src s).mgmt.exec = s.mgmt.exec ∧
    (markStarted src s).mgmt.deferred = s.mgmt.deferred ∧ (markStarted src s).mgmt.unanswered = s.mgmt.unanswered ∧
    (markStarted src s).mgmt.control = s.mgmt.control ∧ (markStarted src s).mgmt.inbox = s.mgmt.inbox ∧
    (markStarted src s).mgmt.resetsIssued = s.mgmt.resetsIssued ∧
    (markStarted src s).mgmt.nextWaiter = s.mgmt.nextWaiter := by
  simp only [markStarted]
  repeat' split
  all_goals simp

@[simp] theorem markStarted_alerts_kept (src : Source) (s : State) :
    (markStarted src s).alerts.pending = s.alerts.pending ∧
    (markStarted src s).alerts.reported = s.alerts.reported ∧ (markStarted src s).alerts.state = s.alerts.state ∧
    (markStarted src s).alerts.sequence = s.alerts.sequence ∧
    (markStarted src s).alerts.outstanding = s.alerts.outstanding ∧
    (markStarted src s).alerts.repeatCount = s.alerts.repeatCount ∧
    (markStarted src s).alerts.timerRunning = s.alerts.timerRunning ∧
    (markStarted src s).alerts.raises = s.alerts.raises ∧ (markStarted src s).alerts.inbox = s.alerts.inbox ∧
    (markStarted src s).alerts.resetsTaken = s.alerts.resetsTaken := by
  simp only [markStarted]
  repeat' split
  all_goals simp

@[simp] theorem markStarted_delivery_kept (src : Source) (s : State) :
    (markStarted src s).delivery.inbox = s.delivery.inbox ∧
    (markStarted src s).delivery.resetsTaken = s.delivery.resetsTaken := by
  simp only [markStarted]
  repeat' split
  all_goals simp

@[simp] theorem markStarted_stream_kept (src : Source) (s : State) :
    (markStarted src s).stream.counters = s.stream.counters ∧ (markStarted src s).stream.queue = s.stream.queue ∧
    (markStarted src s).stream.sequence = s.stream.sequence ∧
    (markStarted src s).stream.gapCount = s.stream.gapCount ∧
    (markStarted src s).stream.records = s.stream.records ∧ (markStarted src s).stream.reloads = s.stream.reloads ∧
    (markStarted src s).stream.inbox = s.stream.inbox ∧
    (markStarted src s).stream.resetsTaken = s.stream.resetsTaken := by
  simp only [markStarted]
  repeat' split
  all_goals simp

@[simp] theorem arbitrate_mgmt_kept (s : State) :
    (arbitrate s).mgmt.requests = s.mgmt.requests ∧ (arbitrate s).mgmt.exec = s.mgmt.exec ∧
    (arbitrate s).mgmt.deferred = s.mgmt.deferred ∧ (arbitrate s).mgmt.unanswered = s.mgmt.unanswered ∧
    (arbitrate s).mgmt.control = s.mgmt.control ∧ (arbitrate s).mgmt.inbox = s.mgmt.inbox ∧
    (arbitrate s).mgmt.resetsIssued = s.mgmt.resetsIssued ∧ (arbitrate s).mgmt.nextWaiter = s.mgmt.nextWaiter := by
  simp only [arbitrate]
  repeat' split
  all_goals simp

@[simp] theorem arbitrate_alerts_kept (s : State) :
    (arbitrate s).alerts.pending = s.alerts.pending ∧ (arbitrate s).alerts.reported = s.alerts.reported ∧
    (arbitrate s).alerts.state = s.alerts.state ∧ (arbitrate s).alerts.sequence = s.alerts.sequence ∧
    (arbitrate s).alerts.outstanding = s.alerts.outstanding ∧
    (arbitrate s).alerts.repeatCount = s.alerts.repeatCount ∧
    (arbitrate s).alerts.timerRunning = s.alerts.timerRunning ∧ (arbitrate s).alerts.raises = s.alerts.raises ∧
    (arbitrate s).alerts.inbox = s.alerts.inbox ∧ (arbitrate s).alerts.resetsTaken = s.alerts.resetsTaken := by
  simp only [arbitrate]
  repeat' split
  all_goals simp

@[simp] theorem arbitrate_delivery_kept (s : State) :
    (arbitrate s).delivery.inbox = s.delivery.inbox ∧ (arbitrate s).delivery.resetsTaken = s.delivery.resetsTaken := by
  simp only [arbitrate]
  repeat' split
  all_goals simp

@[simp] theorem arbitrate_stream_kept (s : State) :
    (arbitrate s).stream.counters = s.stream.counters ∧ (arbitrate s).stream.queue = s.stream.queue ∧
    (arbitrate s).stream.sequence = s.stream.sequence ∧ (arbitrate s).stream.gapCount = s.stream.gapCount ∧
    (arbitrate s).stream.records = s.stream.records ∧ (arbitrate s).stream.reloads = s.stream.reloads ∧
    (arbitrate s).stream.inbox = s.stream.inbox ∧ (arbitrate s).stream.resetsTaken = s.stream.resetsTaken := by
  simp only [arbitrate]
  repeat' split
  all_goals simp

@[simp] theorem arbitrate_link_kept (s : State) :
    (arbitrate s).link.state = s.link.state ∧ (arbitrate s).link.trainRun = s.link.trainRun ∧
    (arbitrate s).link.badRun = s.link.badRun := by
  simp only [arbitrate]
  repeat' split
  all_goals simp

@[simp] theorem settleAlerts_alerts_kept (s : State) :
    (settleAlerts s).alerts.pending = s.alerts.pending ∧ (settleAlerts s).alerts.reported = s.alerts.reported ∧
    (settleAlerts s).alerts.state = s.alerts.state ∧ (settleAlerts s).alerts.sequence = s.alerts.sequence ∧
    (settleAlerts s).alerts.outstanding = s.alerts.outstanding ∧
    (settleAlerts s).alerts.repeatCount = s.alerts.repeatCount ∧
    (settleAlerts s).alerts.timerRunning = s.alerts.timerRunning ∧ (settleAlerts s).alerts.sent = s.alerts.sent ∧
    (settleAlerts s).alerts.reRaised = s.alerts.reRaised ∧ (settleAlerts s).alerts.raises = s.alerts.raises ∧
    (settleAlerts s).alerts.inbox = s.alerts.inbox ∧ (settleAlerts s).alerts.resetsTaken = s.alerts.resetsTaken := by simp [AlertUnit.settle_eq]

@[simp] theorem report_mgmt_kept (src : Source) (r : LinkReport) (s : State) :
    (report src r s).mgmt.requests = s.mgmt.requests ∧ (report src r s).mgmt.exec = s.mgmt.exec ∧
    (report src r s).mgmt.replies = s.mgmt.replies ∧ (report src r s).mgmt.inTransmission = s.mgmt.inTransmission ∧
    (report src r s).mgmt.deferred = s.mgmt.deferred ∧ (report src r s).mgmt.unanswered = s.mgmt.unanswered ∧
    (report src r s).mgmt.control = s.mgmt.control ∧ (report src r s).mgmt.resetsIssued = s.mgmt.resetsIssued ∧
    (report src r s).mgmt.nextWaiter = s.mgmt.nextWaiter := by cases src <;> simp [report]

@[simp] theorem report_alerts_kept (src : Source) (r : LinkReport) (s : State) :
    (report src r s).alerts.pending = s.alerts.pending ∧ (report src r s).alerts.reported = s.alerts.reported ∧
    (report src r s).alerts.state = s.alerts.state ∧ (report src r s).alerts.sequence = s.alerts.sequence ∧
    (report src r s).alerts.outstanding = s.alerts.outstanding ∧
    (report src r s).alerts.repeatCount = s.alerts.repeatCount ∧
    (report src r s).alerts.timerRunning = s.alerts.timerRunning ∧ (report src r s).alerts.offer = s.alerts.offer ∧
    (report src r s).alerts.sent = s.alerts.sent ∧ (report src r s).alerts.reRaised = s.alerts.reRaised ∧
    (report src r s).alerts.raises = s.alerts.raises ∧ (report src r s).alerts.resetsTaken = s.alerts.resetsTaken := by cases src <;> simp [report]

@[simp] theorem report_delivery_kept (src : Source) (r : LinkReport) (s : State) :
    (report src r s).delivery.drain = s.delivery.drain ∧
    (report src r s).delivery.resetsTaken = s.delivery.resetsTaken := by cases src <;> simp [report]

@[simp] theorem report_stream_kept (src : Source) (r : LinkReport) (s : State) :
    (report src r s).stream.counters = s.stream.counters ∧ (report src r s).stream.queue = s.stream.queue ∧
    (report src r s).stream.headMark = s.stream.headMark ∧ (report src r s).stream.sequence = s.stream.sequence ∧
    (report src r s).stream.gapCount = s.stream.gapCount ∧ (report src r s).stream.records = s.stream.records ∧
    (report src r s).stream.reloads = s.stream.reloads ∧ (report src r s).stream.resetsTaken = s.stream.resetsTaken := by cases src <;> simp [report]

@[simp] theorem giveUpFrames_mgmt_kept (src : Source) (s : State) :
    (giveUpFrames src s).mgmt.requests = s.mgmt.requests ∧ (giveUpFrames src s).mgmt.exec = s.mgmt.exec ∧
    (giveUpFrames src s).mgmt.replies = s.mgmt.replies ∧
    (giveUpFrames src s).mgmt.inTransmission = s.mgmt.inTransmission ∧
    (giveUpFrames src s).mgmt.deferred = s.mgmt.deferred ∧
    (giveUpFrames src s).mgmt.unanswered = s.mgmt.unanswered ∧ (giveUpFrames src s).mgmt.control = s.mgmt.control ∧
    (giveUpFrames src s).mgmt.resetsIssued = s.mgmt.resetsIssued ∧
    (giveUpFrames src s).mgmt.nextWaiter = s.mgmt.nextWaiter := by cases src <;> simp [giveUpFrames]

@[simp] theorem giveUpFrames_alerts_kept (src : Source) (s : State) :
    (giveUpFrames src s).alerts.pending = s.alerts.pending ∧
    (giveUpFrames src s).alerts.reported = s.alerts.reported ∧ (giveUpFrames src s).alerts.state = s.alerts.state ∧
    (giveUpFrames src s).alerts.sequence = s.alerts.sequence ∧
    (giveUpFrames src s).alerts.outstanding = s.alerts.outstanding ∧
    (giveUpFrames src s).alerts.repeatCount = s.alerts.repeatCount ∧
    (giveUpFrames src s).alerts.timerRunning = s.alerts.timerRunning ∧
    (giveUpFrames src s).alerts.offer = s.alerts.offer ∧ (giveUpFrames src s).alerts.sent = s.alerts.sent ∧
    (giveUpFrames src s).alerts.reRaised = s.alerts.reRaised ∧
    (giveUpFrames src s).alerts.raises = s.alerts.raises ∧
    (giveUpFrames src s).alerts.resetsTaken = s.alerts.resetsTaken := by cases src <;> simp [giveUpFrames]

@[simp] theorem giveUpFrames_delivery_kept (src : Source) (s : State) :
    (giveUpFrames src s).delivery.drain = s.delivery.drain ∧
    (giveUpFrames src s).delivery.resetsTaken = s.delivery.resetsTaken := by cases src <;> simp [giveUpFrames]

@[simp] theorem giveUpFrames_stream_kept (src : Source) (s : State) :
    (giveUpFrames src s).stream.counters = s.stream.counters ∧ (giveUpFrames src s).stream.queue = s.stream.queue ∧
    (giveUpFrames src s).stream.headMark = s.stream.headMark ∧
    (giveUpFrames src s).stream.sequence = s.stream.sequence ∧
    (giveUpFrames src s).stream.gapCount = s.stream.gapCount ∧
    (giveUpFrames src s).stream.records = s.stream.records ∧
    (giveUpFrames src s).stream.reloads = s.stream.reloads ∧
    (giveUpFrames src s).stream.resetsTaken = s.stream.resetsTaken := by cases src <;> simp [giveUpFrames]

@[simp] theorem giveUpFrames_link_kept (src : Source) (s : State) :
    (giveUpFrames src s).link.state = s.link.state ∧ (giveUpFrames src s).link.trainRun = s.link.trainRun ∧
    (giveUpFrames src s).link.badRun = s.link.badRun ∧ (giveUpFrames src s).link.credit = s.link.credit := by simp [LinkController.giveUp]

@[simp] theorem finishHead_mgmt_kept (st : Status) (c : ReplyContent) (s : State) :
    (finishHead st c s).mgmt.inTransmission = s.mgmt.inTransmission ∧
    (finishHead st c s).mgmt.deferred = s.mgmt.deferred ∧ (finishHead st c s).mgmt.unanswered = s.mgmt.unanswered ∧
    (finishHead st c s).mgmt.control = s.mgmt.control ∧ (finishHead st c s).mgmt.inbox = s.mgmt.inbox ∧
    (finishHead st c s).mgmt.resetsIssued = s.mgmt.resetsIssued ∧
    (finishHead st c s).mgmt.nextWaiter = s.mgmt.nextWaiter := by
  simp only [finishHead]
  repeat' split
  all_goals simp

@[simp] theorem refuse_mgmt_kept (st : Status) (s : State) :
    (refuse st s).mgmt.inTransmission = s.mgmt.inTransmission ∧ (refuse st s).mgmt.deferred = s.mgmt.deferred ∧
    (refuse st s).mgmt.unanswered = s.mgmt.unanswered ∧ (refuse st s).mgmt.control = s.mgmt.control ∧
    (refuse st s).mgmt.inbox = s.mgmt.inbox ∧ (refuse st s).mgmt.resetsIssued = s.mgmt.resetsIssued ∧
    (refuse st s).mgmt.nextWaiter = s.mgmt.nextWaiter := by simp [refuse]

@[simp] theorem startTrain_link_kept (s : State) :
    (startTrain s).link.state = s.link.state ∧ (startTrain s).link.trainRun = s.link.trainRun ∧
    (startTrain s).link.badRun = s.link.badRun ∧ (startTrain s).link.credit = s.link.credit := by
  simp only [startTrain]
  repeat' split
  all_goals simp

@[simp] theorem grant_alerts_kept (c : Byte) (s : State) :
    (grant c s).alerts.pending = s.alerts.pending ∧ (grant c s).alerts.reported = s.alerts.reported ∧
    (grant c s).alerts.state = s.alerts.state ∧ (grant c s).alerts.sequence = s.alerts.sequence ∧
    (grant c s).alerts.outstanding = s.alerts.outstanding ∧ (grant c s).alerts.repeatCount = s.alerts.repeatCount ∧
    (grant c s).alerts.timerRunning = s.alerts.timerRunning ∧ (grant c s).alerts.offer = s.alerts.offer ∧
    (grant c s).alerts.sent = s.alerts.sent ∧ (grant c s).alerts.reRaised = s.alerts.reRaised ∧
    (grant c s).alerts.inbox = s.alerts.inbox ∧ (grant c s).alerts.resetsTaken = s.alerts.resetsTaken := by
  simp only [grant]
  repeat' split
  all_goals simp

@[simp] theorem nextFrame_mgmt_kept (s : State) :
    (nextFrame s).mgmt.requests = s.mgmt.requests ∧ (nextFrame s).mgmt.exec = s.mgmt.exec ∧
    (nextFrame s).mgmt.deferred = s.mgmt.deferred ∧ (nextFrame s).mgmt.unanswered = s.mgmt.unanswered ∧
    (nextFrame s).mgmt.control = s.mgmt.control ∧ (nextFrame s).mgmt.inbox = s.mgmt.inbox ∧
    (nextFrame s).mgmt.resetsIssued = s.mgmt.resetsIssued ∧ (nextFrame s).mgmt.nextWaiter = s.mgmt.nextWaiter := by
  simp only [nextFrame]
  repeat' split
  all_goals simp

@[simp] theorem nextFrame_alerts_kept (s : State) :
    (nextFrame s).alerts.pending = s.alerts.pending ∧ (nextFrame s).alerts.reported = s.alerts.reported ∧
    (nextFrame s).alerts.state = s.alerts.state ∧ (nextFrame s).alerts.sequence = s.alerts.sequence ∧
    (nextFrame s).alerts.outstanding = s.alerts.outstanding ∧
    (nextFrame s).alerts.repeatCount = s.alerts.repeatCount ∧
    (nextFrame s).alerts.timerRunning = s.alerts.timerRunning ∧ (nextFrame s).alerts.raises = s.alerts.raises ∧
    (nextFrame s).alerts.inbox = s.alerts.inbox ∧ (nextFrame s).alerts.resetsTaken = s.alerts.resetsTaken := by
  simp only [nextFrame]
  repeat' split
  all_goals simp

@[simp] theorem nextFrame_delivery_kept (s : State) :
    (nextFrame s).delivery.inbox = s.delivery.inbox ∧ (nextFrame s).delivery.resetsTaken = s.delivery.resetsTaken := by
  simp only [nextFrame]
  repeat' split
  all_goals simp

@[simp] theorem nextFrame_stream_kept (s : State) :
    (nextFrame s).stream.counters = s.stream.counters ∧ (nextFrame s).stream.queue = s.stream.queue ∧
    (nextFrame s).stream.sequence = s.stream.sequence ∧ (nextFrame s).stream.gapCount = s.stream.gapCount ∧
    (nextFrame s).stream.records = s.stream.records ∧ (nextFrame s).stream.reloads = s.stream.reloads ∧
    (nextFrame s).stream.inbox = s.stream.inbox ∧ (nextFrame s).stream.resetsTaken = s.stream.resetsTaken := by
  simp only [nextFrame]
  repeat' split
  all_goals simp

@[simp] theorem nextFrame_link_kept (s : State) :
    (nextFrame s).link.state = s.link.state ∧ (nextFrame s).link.trainRun = s.link.trainRun ∧
    (nextFrame s).link.badRun = s.link.badRun := by
  simp only [nextFrame]
  repeat' split
  all_goals simp

/-! ### Epochs: what a close leaves of the blocks it touches -/

@[simp] theorem offerRecord_conditions_kept (r : EpochRecord) (s : State) :
    (offerRecord r s).conditions.edit = s.conditions.edit ∧ (offerRecord r s).conditions.live = s.conditions.live ∧
    (offerRecord r s).conditions.triggers = s.conditions.triggers ∧
    (offerRecord r s).conditions.commit = s.conditions.commit ∧
    (offerRecord r s).conditions.generation = s.conditions.generation ∧
    (offerRecord r s).conditions.nextWalk = s.conditions.nextWalk ∧
    (offerRecord r s).conditions.answers = s.conditions.answers ∧
    (offerRecord r s).conditions.resetsTaken = s.conditions.resetsTaken := by simp [offerRecord_conditions]

@[simp] theorem offerRecord_capture_kept (r : EpochRecord) (s : State) :
    (offerRecord r s).capture.configs = s.capture.configs ∧ (offerRecord r s).capture.units = s.capture.units ∧
    (offerRecord r s).capture.number = s.capture.number ∧
    (offerRecord r s).capture.nextRecord = s.capture.nextRecord ∧
    (offerRecord r s).capture.drainQueue = s.capture.drainQueue ∧
    (offerRecord r s).capture.fires = s.capture.fires ∧
    (offerRecord r s).capture.resetsTaken = s.capture.resetsTaken := by simp [offerRecord_capture]

@[simp] theorem offerRecord_stream_kept (r : EpochRecord) (s : State) :
    (offerRecord r s).stream.counters = s.stream.counters ∧ (offerRecord r s).stream.queue = s.stream.queue ∧
    (offerRecord r s).stream.headMark = s.stream.headMark ∧ (offerRecord r s).stream.sequence = s.stream.sequence ∧
    (offerRecord r s).stream.gapCount = s.stream.gapCount ∧ (offerRecord r s).stream.reloads = s.stream.reloads ∧
    (offerRecord r s).stream.inbox = s.stream.inbox ∧ (offerRecord r s).stream.resetsTaken = s.stream.resetsTaken := by simp [offerRecord_stream]

@[simp] theorem recordClose_conditions_kept (n : Epoch) (s : State) :
    (recordClose n s).conditions.edit = s.conditions.edit ∧ (recordClose n s).conditions.live = s.conditions.live ∧
    (recordClose n s).conditions.triggers = s.conditions.triggers ∧
    (recordClose n s).conditions.commit = s.conditions.commit ∧
    (recordClose n s).conditions.generation = s.conditions.generation ∧
    (recordClose n s).conditions.nextWalk = s.conditions.nextWalk ∧
    (recordClose n s).conditions.answers = s.conditions.answers ∧
    (recordClose n s).conditions.resetsTaken = s.conditions.resetsTaken := by
  simp only [recordClose]
  repeat' split
  all_goals simp

@[simp] theorem recordClose_capture_kept (n : Epoch) (s : State) :
    (recordClose n s).capture.configs = s.capture.configs ∧ (recordClose n s).capture.units = s.capture.units ∧
    (recordClose n s).capture.number = s.capture.number ∧
    (recordClose n s).capture.nextRecord = s.capture.nextRecord ∧
    (recordClose n s).capture.drainQueue = s.capture.drainQueue ∧
    (recordClose n s).capture.fires = s.capture.fires ∧
    (recordClose n s).capture.resetsTaken = s.capture.resetsTaken := by
  simp only [recordClose]
  repeat' split
  all_goals simp

@[simp] theorem recordClose_stream_kept (n : Epoch) (s : State) :
    (recordClose n s).stream.counters = s.stream.counters ∧ (recordClose n s).stream.queue = s.stream.queue ∧
    (recordClose n s).stream.headMark = s.stream.headMark ∧ (recordClose n s).stream.sequence = s.stream.sequence ∧
    (recordClose n s).stream.gapCount = s.stream.gapCount ∧ (recordClose n s).stream.reloads = s.stream.reloads ∧
    (recordClose n s).stream.inbox = s.stream.inbox ∧ (recordClose n s).stream.resetsTaken = s.stream.resetsTaken := by
  simp only [recordClose]
  repeat' split
  all_goals simp

@[simp] theorem recordClose_channels_kept (n : Epoch) (s : State) :
    (recordClose n s).channels.table = s.channels.table ∧
    (recordClose n s).channels.resetsTaken = s.channels.resetsTaken := by
  simp only [recordClose]
  split <;> simp [afterBuild]

@[simp] theorem closeEpoch_conditions_kept (c : CloseCause) (s : State) :
    (closeEpoch c s).conditions.edit = s.conditions.edit ∧ (closeEpoch c s).conditions.live = s.conditions.live ∧
    (closeEpoch c s).conditions.triggers = s.conditions.triggers ∧
    (closeEpoch c s).conditions.commit = s.conditions.commit ∧
    (closeEpoch c s).conditions.generation = s.conditions.generation ∧
    (closeEpoch c s).conditions.nextWalk = s.conditions.nextWalk ∧
    (closeEpoch c s).conditions.answers = s.conditions.answers ∧
    (closeEpoch c s).conditions.resetsTaken = s.conditions.resetsTaken := by
  unfold closeEpoch
  split
  · simp
  · simp only []
    split <;> simp

@[simp] theorem closeEpoch_capture_kept (c : CloseCause) (s : State) :
    (closeEpoch c s).capture.configs = s.capture.configs ∧ (closeEpoch c s).capture.units = s.capture.units ∧
    (closeEpoch c s).capture.number = s.capture.number ∧
    (closeEpoch c s).capture.nextRecord = s.capture.nextRecord ∧
    (closeEpoch c s).capture.drainQueue = s.capture.drainQueue ∧ (closeEpoch c s).capture.fires = s.capture.fires ∧
    (closeEpoch c s).capture.resetsTaken = s.capture.resetsTaken := by
  unfold closeEpoch
  split
  · simp
  · simp only []
    split <;> simp

@[simp] theorem closeEpoch_stream_kept (c : CloseCause) (s : State) :
    (closeEpoch c s).stream.counters = s.stream.counters ∧ (closeEpoch c s).stream.queue = s.stream.queue ∧
    (closeEpoch c s).stream.headMark = s.stream.headMark ∧ (closeEpoch c s).stream.sequence = s.stream.sequence ∧
    (closeEpoch c s).stream.gapCount = s.stream.gapCount ∧ (closeEpoch c s).stream.reloads = s.stream.reloads ∧
    (closeEpoch c s).stream.inbox = s.stream.inbox ∧ (closeEpoch c s).stream.resetsTaken = s.stream.resetsTaken := by
  unfold closeEpoch
  split
  · simp
  · simp only []
    split <;> simp

@[simp] theorem closeEpoch_channels_kept (c : CloseCause) (s : State) :
    (closeEpoch c s).channels.table = s.channels.table ∧
    (closeEpoch c s).channels.resetsTaken = s.channels.resetsTaken := by
  unfold closeEpoch
  split
  · simp
  · simp only []
    split <;> simp

@[simp] theorem closeEpoch_alerts_kept (c : CloseCause) (s : State) :
    (closeEpoch c s).alerts.pending = s.alerts.pending ∧ (closeEpoch c s).alerts.reported = s.alerts.reported ∧
    (closeEpoch c s).alerts.state = s.alerts.state ∧ (closeEpoch c s).alerts.sequence = s.alerts.sequence ∧
    (closeEpoch c s).alerts.outstanding = s.alerts.outstanding ∧
    (closeEpoch c s).alerts.repeatCount = s.alerts.repeatCount ∧
    (closeEpoch c s).alerts.timerRunning = s.alerts.timerRunning ∧ (closeEpoch c s).alerts.offer = s.alerts.offer ∧
    (closeEpoch c s).alerts.sent = s.alerts.sent ∧ (closeEpoch c s).alerts.reRaised = s.alerts.reRaised ∧
    (closeEpoch c s).alerts.inbox = s.alerts.inbox ∧ (closeEpoch c s).alerts.resetsTaken = s.alerts.resetsTaken := by
  unfold closeEpoch
  split
  · simp
  · simp only []
    split <;> simp

@[simp] theorem closeEpoch_timer_kept (c : CloseCause) (s : State) :
    (closeEpoch c s).timer.state = s.timer.state ∧ (closeEpoch c s).timer.nextEpoch = s.timer.nextEpoch ∧
    (closeEpoch c s).timer.periodTimer = s.timer.periodTimer ∧ (closeEpoch c s).timer.strobe = s.timer.strobe ∧
    (closeEpoch c s).timer.resetsTaken = s.timer.resetsTaken := by
  unfold closeEpoch
  split
  · simp
  · simp only []
    split <;> simp

@[simp] theorem completenessTest_conditions_kept (s : State) :
    (completenessTest s).conditions.edit = s.conditions.edit ∧
    (completenessTest s).conditions.live = s.conditions.live ∧
    (completenessTest s).conditions.triggers = s.conditions.triggers ∧
    (completenessTest s).conditions.commit = s.conditions.commit ∧
    (completenessTest s).conditions.generation = s.conditions.generation ∧
    (completenessTest s).conditions.nextWalk = s.conditions.nextWalk ∧
    (completenessTest s).conditions.answers = s.conditions.answers ∧
    (completenessTest s).conditions.resetsTaken = s.conditions.resetsTaken := by
  simp only [completenessTest]
  repeat' split
  all_goals simp

@[simp] theorem completenessTest_capture_kept (s : State) :
    (completenessTest s).capture.configs = s.capture.configs ∧
    (completenessTest s).capture.units = s.capture.units ∧ (completenessTest s).capture.number = s.capture.number ∧
    (completenessTest s).capture.nextRecord = s.capture.nextRecord ∧
    (completenessTest s).capture.drainQueue = s.capture.drainQueue ∧
    (completenessTest s).capture.fires = s.capture.fires ∧
    (completenessTest s).capture.resetsTaken = s.capture.resetsTaken := by
  simp only [completenessTest]
  repeat' split
  all_goals simp

@[simp] theorem completenessTest_stream_kept (s : State) :
    (completenessTest s).stream.counters = s.stream.counters ∧ (completenessTest s).stream.queue = s.stream.queue ∧
    (completenessTest s).stream.headMark = s.stream.headMark ∧
    (completenessTest s).stream.sequence = s.stream.sequence ∧
    (completenessTest s).stream.gapCount = s.stream.gapCount ∧
    (completenessTest s).stream.reloads = s.stream.reloads ∧ (completenessTest s).stream.inbox = s.stream.inbox ∧
    (completenessTest s).stream.resetsTaken = s.stream.resetsTaken := by
  simp only [completenessTest]
  repeat' split
  all_goals simp

@[simp] theorem completenessTest_channels_kept (s : State) :
    (completenessTest s).channels.table = s.channels.table ∧
    (completenessTest s).channels.resetsTaken = s.channels.resetsTaken := by
  simp only [completenessTest]
  repeat' split
  all_goals simp

@[simp] theorem completenessTest_alerts_kept (s : State) :
    (completenessTest s).alerts.pending = s.alerts.pending ∧
    (completenessTest s).alerts.reported = s.alerts.reported ∧ (completenessTest s).alerts.state = s.alerts.state ∧
    (completenessTest s).alerts.sequence = s.alerts.sequence ∧
    (completenessTest s).alerts.outstanding = s.alerts.outstanding ∧
    (completenessTest s).alerts.repeatCount = s.alerts.repeatCount ∧
    (completenessTest s).alerts.timerRunning = s.alerts.timerRunning ∧
    (completenessTest s).alerts.offer = s.alerts.offer ∧ (completenessTest s).alerts.sent = s.alerts.sent ∧
    (completenessTest s).alerts.reRaised = s.alerts.reRaised ∧ (completenessTest s).alerts.inbox = s.alerts.inbox ∧
    (completenessTest s).alerts.resetsTaken = s.alerts.resetsTaken := by
  simp only [completenessTest]
  repeat' split
  all_goals simp

@[simp] theorem completenessTest_timer_kept (s : State) :
    (completenessTest s).timer.state = s.timer.state ∧ (completenessTest s).timer.nextEpoch = s.timer.nextEpoch ∧
    (completenessTest s).timer.periodTimer = s.timer.periodTimer ∧
    (completenessTest s).timer.strobe = s.timer.strobe ∧
    (completenessTest s).timer.resetsTaken = s.timer.resetsTaken := by
  simp only [completenessTest]
  repeat' split
  all_goals simp

@[simp] theorem openNext_conditions_kept (s : State) :
    (openNext s).conditions.edit = s.conditions.edit ∧ (openNext s).conditions.live = s.conditions.live ∧
    (openNext s).conditions.triggers = s.conditions.triggers ∧
    (openNext s).conditions.commit = s.conditions.commit ∧
    (openNext s).conditions.generation = s.conditions.generation ∧
    (openNext s).conditions.nextWalk = s.conditions.nextWalk ∧
    (openNext s).conditions.answers = s.conditions.answers ∧
    (openNext s).conditions.resetsTaken = s.conditions.resetsTaken := by simp [openNext]

@[simp] theorem openNext_capture_kept (s : State) :
    (openNext s).capture.configs = s.capture.configs ∧ (openNext s).capture.units = s.capture.units ∧
    (openNext s).capture.number = s.capture.number ∧ (openNext s).capture.nextRecord = s.capture.nextRecord ∧
    (openNext s).capture.drainQueue = s.capture.drainQueue ∧ (openNext s).capture.fires = s.capture.fires ∧
    (openNext s).capture.resetsTaken = s.capture.resetsTaken := by simp [openNext]

@[simp] theorem openNext_stream_kept (s : State) :
    (openNext s).stream.counters = s.stream.counters ∧ (openNext s).stream.queue = s.stream.queue ∧
    (openNext s).stream.headMark = s.stream.headMark ∧ (openNext s).stream.sequence = s.stream.sequence ∧
    (openNext s).stream.gapCount = s.stream.gapCount ∧ (openNext s).stream.reloads = s.stream.reloads ∧
    (openNext s).stream.inbox = s.stream.inbox ∧ (openNext s).stream.resetsTaken = s.stream.resetsTaken := by simp [openNext]

@[simp] theorem openNext_channels_kept (s : State) :
    (openNext s).channels.table = s.channels.table ∧ (openNext s).channels.resetsTaken = s.channels.resetsTaken := by simp [openNext]

@[simp] theorem openNext_alerts_kept (s : State) :
    (openNext s).alerts.pending = s.alerts.pending ∧ (openNext s).alerts.reported = s.alerts.reported ∧
    (openNext s).alerts.state = s.alerts.state ∧ (openNext s).alerts.sequence = s.alerts.sequence ∧
    (openNext s).alerts.outstanding = s.alerts.outstanding ∧
    (openNext s).alerts.repeatCount = s.alerts.repeatCount ∧
    (openNext s).alerts.timerRunning = s.alerts.timerRunning ∧ (openNext s).alerts.offer = s.alerts.offer ∧
    (openNext s).alerts.sent = s.alerts.sent ∧ (openNext s).alerts.reRaised = s.alerts.reRaised ∧
    (openNext s).alerts.inbox = s.alerts.inbox ∧ (openNext s).alerts.resetsTaken = s.alerts.resetsTaken := by simp [openNext]

@[simp] theorem openNext_timer_kept (s : State) :
    (openNext s).timer.state = s.timer.state ∧ (openNext s).timer.periodTimer = s.timer.periodTimer ∧
    (openNext s).timer.resetsTaken = s.timer.resetsTaken := by simp [openNext]

@[simp] theorem lanesLeave_conditions_kept (l : LaneSet) (s : State) :
    (lanesLeave l s).conditions.edit = s.conditions.edit ∧ (lanesLeave l s).conditions.live = s.conditions.live ∧
    (lanesLeave l s).conditions.triggers = s.conditions.triggers ∧
    (lanesLeave l s).conditions.commit = s.conditions.commit ∧
    (lanesLeave l s).conditions.generation = s.conditions.generation ∧
    (lanesLeave l s).conditions.nextWalk = s.conditions.nextWalk ∧
    (lanesLeave l s).conditions.answers = s.conditions.answers ∧
    (lanesLeave l s).conditions.resetsTaken = s.conditions.resetsTaken := by simp [lanesLeave, resetCrossings]

@[simp] theorem lanesLeave_capture_kept (l : LaneSet) (s : State) :
    (lanesLeave l s).capture.configs = s.capture.configs ∧ (lanesLeave l s).capture.units = s.capture.units ∧
    (lanesLeave l s).capture.number = s.capture.number ∧
    (lanesLeave l s).capture.nextRecord = s.capture.nextRecord ∧
    (lanesLeave l s).capture.drainQueue = s.capture.drainQueue ∧ (lanesLeave l s).capture.fires = s.capture.fires ∧
    (lanesLeave l s).capture.resetsTaken = s.capture.resetsTaken := by simp [lanesLeave, resetCrossings]

@[simp] theorem lanesLeave_stream_kept (l : LaneSet) (s : State) :
    (lanesLeave l s).stream.counters = s.stream.counters ∧ (lanesLeave l s).stream.queue = s.stream.queue ∧
    (lanesLeave l s).stream.headMark = s.stream.headMark ∧ (lanesLeave l s).stream.sequence = s.stream.sequence ∧
    (lanesLeave l s).stream.gapCount = s.stream.gapCount ∧ (lanesLeave l s).stream.reloads = s.stream.reloads ∧
    (lanesLeave l s).stream.inbox = s.stream.inbox ∧ (lanesLeave l s).stream.resetsTaken = s.stream.resetsTaken := by simp [lanesLeave, resetCrossings]

@[simp] theorem lanesLeave_channels_kept (l : LaneSet) (s : State) :
    (lanesLeave l s).channels.table = s.channels.table ∧
    (lanesLeave l s).channels.resetsTaken = s.channels.resetsTaken := by simp [lanesLeave, resetCrossings]

@[simp] theorem lanesLeave_alerts_kept (l : LaneSet) (s : State) :
    (lanesLeave l s).alerts.pending = s.alerts.pending ∧ (lanesLeave l s).alerts.reported = s.alerts.reported ∧
    (lanesLeave l s).alerts.state = s.alerts.state ∧ (lanesLeave l s).alerts.sequence = s.alerts.sequence ∧
    (lanesLeave l s).alerts.outstanding = s.alerts.outstanding ∧
    (lanesLeave l s).alerts.repeatCount = s.alerts.repeatCount ∧
    (lanesLeave l s).alerts.timerRunning = s.alerts.timerRunning ∧ (lanesLeave l s).alerts.offer = s.alerts.offer ∧
    (lanesLeave l s).alerts.sent = s.alerts.sent ∧ (lanesLeave l s).alerts.reRaised = s.alerts.reRaised ∧
    (lanesLeave l s).alerts.inbox = s.alerts.inbox ∧ (lanesLeave l s).alerts.resetsTaken = s.alerts.resetsTaken := by simp [lanesLeave, resetCrossings]

@[simp] theorem lanesLeave_timer_kept (l : LaneSet) (s : State) :
    (lanesLeave l s).timer.state = s.timer.state ∧ (lanesLeave l s).timer.nextEpoch = s.timer.nextEpoch ∧
    (lanesLeave l s).timer.periodTimer = s.timer.periodTimer ∧ (lanesLeave l s).timer.strobe = s.timer.strobe ∧
    (lanesLeave l s).timer.resetsTaken = s.timer.resetsTaken := by simp [lanesLeave, resetCrossings]

@[simp] theorem loseLane_conditions_kept (l : Fin 4) (s : State) :
    (loseLane l s).conditions.edit = s.conditions.edit ∧ (loseLane l s).conditions.live = s.conditions.live ∧
    (loseLane l s).conditions.triggers = s.conditions.triggers ∧
    (loseLane l s).conditions.commit = s.conditions.commit ∧
    (loseLane l s).conditions.generation = s.conditions.generation ∧
    (loseLane l s).conditions.nextWalk = s.conditions.nextWalk ∧
    (loseLane l s).conditions.answers = s.conditions.answers ∧
    (loseLane l s).conditions.resetsTaken = s.conditions.resetsTaken := by simp [loseLane]

@[simp] theorem loseLane_capture_kept (l : Fin 4) (s : State) :
    (loseLane l s).capture.configs = s.capture.configs ∧ (loseLane l s).capture.units = s.capture.units ∧
    (loseLane l s).capture.number = s.capture.number ∧ (loseLane l s).capture.nextRecord = s.capture.nextRecord ∧
    (loseLane l s).capture.drainQueue = s.capture.drainQueue ∧ (loseLane l s).capture.fires = s.capture.fires ∧
    (loseLane l s).capture.resetsTaken = s.capture.resetsTaken := by simp [loseLane]

@[simp] theorem loseLane_stream_kept (l : Fin 4) (s : State) :
    (loseLane l s).stream.counters = s.stream.counters ∧ (loseLane l s).stream.queue = s.stream.queue ∧
    (loseLane l s).stream.headMark = s.stream.headMark ∧ (loseLane l s).stream.sequence = s.stream.sequence ∧
    (loseLane l s).stream.gapCount = s.stream.gapCount ∧ (loseLane l s).stream.reloads = s.stream.reloads ∧
    (loseLane l s).stream.inbox = s.stream.inbox ∧ (loseLane l s).stream.resetsTaken = s.stream.resetsTaken := by simp [loseLane]

@[simp] theorem loseLane_channels_kept (l : Fin 4) (s : State) :
    (loseLane l s).channels.table = s.channels.table ∧ (loseLane l s).channels.resetsTaken = s.channels.resetsTaken := by simp [loseLane]

@[simp] theorem loseLane_alerts_kept (l : Fin 4) (s : State) :
    (loseLane l s).alerts.pending = s.alerts.pending ∧ (loseLane l s).alerts.reported = s.alerts.reported ∧
    (loseLane l s).alerts.state = s.alerts.state ∧ (loseLane l s).alerts.sequence = s.alerts.sequence ∧
    (loseLane l s).alerts.outstanding = s.alerts.outstanding ∧
    (loseLane l s).alerts.repeatCount = s.alerts.repeatCount ∧
    (loseLane l s).alerts.timerRunning = s.alerts.timerRunning ∧ (loseLane l s).alerts.offer = s.alerts.offer ∧
    (loseLane l s).alerts.sent = s.alerts.sent ∧ (loseLane l s).alerts.reRaised = s.alerts.reRaised ∧
    (loseLane l s).alerts.inbox = s.alerts.inbox ∧ (loseLane l s).alerts.resetsTaken = s.alerts.resetsTaken := by simp [loseLane]

@[simp] theorem loseLane_timer_kept (l : Fin 4) (s : State) :
    (loseLane l s).timer.state = s.timer.state ∧ (loseLane l s).timer.nextEpoch = s.timer.nextEpoch ∧
    (loseLane l s).timer.periodTimer = s.timer.periodTimer ∧ (loseLane l s).timer.strobe = s.timer.strobe ∧
    (loseLane l s).timer.resetsTaken = s.timer.resetsTaken := by simp [loseLane]

@[simp] theorem acceptWord_conditions_kept (l : Fin 4) (k : Fin 8) (raw : BitVec 16) (s : State) :
    (acceptWord l k raw s).conditions.edit = s.conditions.edit ∧
    (acceptWord l k raw s).conditions.live = s.conditions.live ∧
    (acceptWord l k raw s).conditions.triggers = s.conditions.triggers ∧
    (acceptWord l k raw s).conditions.commit = s.conditions.commit ∧
    (acceptWord l k raw s).conditions.generation = s.conditions.generation ∧
    (acceptWord l k raw s).conditions.nextWalk = s.conditions.nextWalk ∧
    (acceptWord l k raw s).conditions.answers = s.conditions.answers ∧
    (acceptWord l k raw s).conditions.resetsTaken = s.conditions.resetsTaken := by simp [acceptWord, deliver]

@[simp] theorem acceptWord_capture_kept (l : Fin 4) (k : Fin 8) (raw : BitVec 16) (s : State) :
    (acceptWord l k raw s).capture.configs = s.capture.configs ∧
    (acceptWord l k raw s).capture.units = s.capture.units ∧
    (acceptWord l k raw s).capture.number = s.capture.number ∧
    (acceptWord l k raw s).capture.nextRecord = s.capture.nextRecord ∧
    (acceptWord l k raw s).capture.drainQueue = s.capture.drainQueue ∧
    (acceptWord l k raw s).capture.fires = s.capture.fires ∧
    (acceptWord l k raw s).capture.resetsTaken = s.capture.resetsTaken := by simp [acceptWord, deliver]

@[simp] theorem acceptWord_stream_kept (l : Fin 4) (k : Fin 8) (raw : BitVec 16) (s : State) :
    (acceptWord l k raw s).stream.counters = s.stream.counters ∧
    (acceptWord l k raw s).stream.queue = s.stream.queue ∧
    (acceptWord l k raw s).stream.headMark = s.stream.headMark ∧
    (acceptWord l k raw s).stream.sequence = s.stream.sequence ∧
    (acceptWord l k raw s).stream.gapCount = s.stream.gapCount ∧
    (acceptWord l k raw s).stream.reloads = s.stream.reloads ∧
    (acceptWord l k raw s).stream.inbox = s.stream.inbox ∧
    (acceptWord l k raw s).stream.resetsTaken = s.stream.resetsTaken := by simp [acceptWord, deliver]

@[simp] theorem acceptWord_channels_kept (l : Fin 4) (k : Fin 8) (raw : BitVec 16) (s : State) :
    (acceptWord l k raw s).channels.table = s.channels.table ∧
    (acceptWord l k raw s).channels.resetsTaken = s.channels.resetsTaken := by simp [acceptWord, deliver]

@[simp] theorem acceptWord_alerts_kept (l : Fin 4) (k : Fin 8) (raw : BitVec 16) (s : State) :
    (acceptWord l k raw s).alerts.pending = s.alerts.pending ∧
    (acceptWord l k raw s).alerts.reported = s.alerts.reported ∧
    (acceptWord l k raw s).alerts.state = s.alerts.state ∧
    (acceptWord l k raw s).alerts.sequence = s.alerts.sequence ∧
    (acceptWord l k raw s).alerts.outstanding = s.alerts.outstanding ∧
    (acceptWord l k raw s).alerts.repeatCount = s.alerts.repeatCount ∧
    (acceptWord l k raw s).alerts.timerRunning = s.alerts.timerRunning ∧
    (acceptWord l k raw s).alerts.offer = s.alerts.offer ∧ (acceptWord l k raw s).alerts.sent = s.alerts.sent ∧
    (acceptWord l k raw s).alerts.reRaised = s.alerts.reRaised ∧
    (acceptWord l k raw s).alerts.inbox = s.alerts.inbox ∧
    (acceptWord l k raw s).alerts.resetsTaken = s.alerts.resetsTaken := by simp [acceptWord, deliver]

@[simp] theorem acceptWord_timer_kept (l : Fin 4) (k : Fin 8) (raw : BitVec 16) (s : State) :
    (acceptWord l k raw s).timer.state = s.timer.state ∧
    (acceptWord l k raw s).timer.nextEpoch = s.timer.nextEpoch ∧
    (acceptWord l k raw s).timer.periodTimer = s.timer.periodTimer ∧
    (acceptWord l k raw s).timer.strobe = s.timer.strobe ∧
    (acceptWord l k raw s).timer.resetsTaken = s.timer.resetsTaken := by simp [acceptWord, deliver]

@[simp] theorem judgeWord_conditions_kept (l : Fin 4) (tag : BitVec 4) (k : Fin 8) (raw : BitVec 16) (s : State) :
    (judgeWord l tag k raw s).conditions.edit = s.conditions.edit ∧
    (judgeWord l tag k raw s).conditions.live = s.conditions.live ∧
    (judgeWord l tag k raw s).conditions.triggers = s.conditions.triggers ∧
    (judgeWord l tag k raw s).conditions.commit = s.conditions.commit ∧
    (judgeWord l tag k raw s).conditions.generation = s.conditions.generation ∧
    (judgeWord l tag k raw s).conditions.nextWalk = s.conditions.nextWalk ∧
    (judgeWord l tag k raw s).conditions.answers = s.conditions.answers ∧
    (judgeWord l tag k raw s).conditions.resetsTaken = s.conditions.resetsTaken := by
  simp only [judgeWord]
  repeat' split
  all_goals simp

@[simp] theorem judgeWord_capture_kept (l : Fin 4) (tag : BitVec 4) (k : Fin 8) (raw : BitVec 16) (s : State) :
    (judgeWord l tag k raw s).capture.configs = s.capture.configs ∧
    (judgeWord l tag k raw s).capture.units = s.capture.units ∧
    (judgeWord l tag k raw s).capture.number = s.capture.number ∧
    (judgeWord l tag k raw s).capture.nextRecord = s.capture.nextRecord ∧
    (judgeWord l tag k raw s).capture.drainQueue = s.capture.drainQueue ∧
    (judgeWord l tag k raw s).capture.fires = s.capture.fires ∧
    (judgeWord l tag k raw s).capture.resetsTaken = s.capture.resetsTaken := by
  simp only [judgeWord]
  repeat' split
  all_goals simp

@[simp] theorem judgeWord_stream_kept (l : Fin 4) (tag : BitVec 4) (k : Fin 8) (raw : BitVec 16) (s : State) :
    (judgeWord l tag k raw s).stream.counters = s.stream.counters ∧
    (judgeWord l tag k raw s).stream.queue = s.stream.queue ∧
    (judgeWord l tag k raw s).stream.headMark = s.stream.headMark ∧
    (judgeWord l tag k raw s).stream.sequence = s.stream.sequence ∧
    (judgeWord l tag k raw s).stream.gapCount = s.stream.gapCount ∧
    (judgeWord l tag k raw s).stream.reloads = s.stream.reloads ∧
    (judgeWord l tag k raw s).stream.inbox = s.stream.inbox ∧
    (judgeWord l tag k raw s).stream.resetsTaken = s.stream.resetsTaken := by
  simp only [judgeWord]
  repeat' split
  all_goals simp

@[simp] theorem judgeWord_channels_kept (l : Fin 4) (tag : BitVec 4) (k : Fin 8) (raw : BitVec 16) (s : State) :
    (judgeWord l tag k raw s).channels.table = s.channels.table ∧
    (judgeWord l tag k raw s).channels.resetsTaken = s.channels.resetsTaken := by
  simp only [judgeWord]
  repeat' split
  all_goals simp

@[simp] theorem judgeWord_alerts_kept (l : Fin 4) (tag : BitVec 4) (k : Fin 8) (raw : BitVec 16) (s : State) :
    (judgeWord l tag k raw s).alerts.pending = s.alerts.pending ∧
    (judgeWord l tag k raw s).alerts.reported = s.alerts.reported ∧
    (judgeWord l tag k raw s).alerts.state = s.alerts.state ∧
    (judgeWord l tag k raw s).alerts.sequence = s.alerts.sequence ∧
    (judgeWord l tag k raw s).alerts.outstanding = s.alerts.outstanding ∧
    (judgeWord l tag k raw s).alerts.repeatCount = s.alerts.repeatCount ∧
    (judgeWord l tag k raw s).alerts.timerRunning = s.alerts.timerRunning ∧
    (judgeWord l tag k raw s).alerts.offer = s.alerts.offer ∧
    (judgeWord l tag k raw s).alerts.sent = s.alerts.sent ∧
    (judgeWord l tag k raw s).alerts.reRaised = s.alerts.reRaised ∧
    (judgeWord l tag k raw s).alerts.inbox = s.alerts.inbox ∧
    (judgeWord l tag k raw s).alerts.resetsTaken = s.alerts.resetsTaken := by
  simp only [judgeWord]
  repeat' split
  all_goals simp

@[simp] theorem judgeWord_timer_kept (l : Fin 4) (tag : BitVec 4) (k : Fin 8) (raw : BitVec 16) (s : State) :
    (judgeWord l tag k raw s).timer.state = s.timer.state ∧
    (judgeWord l tag k raw s).timer.nextEpoch = s.timer.nextEpoch ∧
    (judgeWord l tag k raw s).timer.periodTimer = s.timer.periodTimer ∧
    (judgeWord l tag k raw s).timer.strobe = s.timer.strobe ∧
    (judgeWord l tag k raw s).timer.resetsTaken = s.timer.resetsTaken := by
  simp only [judgeWord]
  repeat' split
  all_goals simp

@[simp] theorem startTimer_conditions_kept (s : State) :
    (startTimer s).conditions.edit = s.conditions.edit ∧ (startTimer s).conditions.live = s.conditions.live ∧
    (startTimer s).conditions.triggers = s.conditions.triggers ∧
    (startTimer s).conditions.commit = s.conditions.commit ∧
    (startTimer s).conditions.generation = s.conditions.generation ∧
    (startTimer s).conditions.nextWalk = s.conditions.nextWalk ∧
    (startTimer s).conditions.answers = s.conditions.answers ∧
    (startTimer s).conditions.resetsTaken = s.conditions.resetsTaken := by simp [startTimer]

@[simp] theorem startTimer_capture_kept (s : State) :
    (startTimer s).capture.configs = s.capture.configs ∧ (startTimer s).capture.units = s.capture.units ∧
    (startTimer s).capture.number = s.capture.number ∧ (startTimer s).capture.nextRecord = s.capture.nextRecord ∧
    (startTimer s).capture.drainQueue = s.capture.drainQueue ∧ (startTimer s).capture.fires = s.capture.fires ∧
    (startTimer s).capture.resetsTaken = s.capture.resetsTaken := by simp [startTimer]

@[simp] theorem startTimer_stream_kept (s : State) :
    (startTimer s).stream.counters = s.stream.counters ∧ (startTimer s).stream.queue = s.stream.queue ∧
    (startTimer s).stream.headMark = s.stream.headMark ∧ (startTimer s).stream.sequence = s.stream.sequence ∧
    (startTimer s).stream.gapCount = s.stream.gapCount ∧ (startTimer s).stream.reloads = s.stream.reloads ∧
    (startTimer s).stream.inbox = s.stream.inbox ∧ (startTimer s).stream.resetsTaken = s.stream.resetsTaken := by simp [startTimer]

@[simp] theorem startTimer_channels_kept (s : State) :
    (startTimer s).channels.table = s.channels.table ∧ (startTimer s).channels.resetsTaken = s.channels.resetsTaken := by simp [startTimer]

@[simp] theorem startTimer_alerts_kept (s : State) :
    (startTimer s).alerts.pending = s.alerts.pending ∧ (startTimer s).alerts.reported = s.alerts.reported ∧
    (startTimer s).alerts.state = s.alerts.state ∧ (startTimer s).alerts.sequence = s.alerts.sequence ∧
    (startTimer s).alerts.outstanding = s.alerts.outstanding ∧
    (startTimer s).alerts.repeatCount = s.alerts.repeatCount ∧
    (startTimer s).alerts.timerRunning = s.alerts.timerRunning ∧ (startTimer s).alerts.offer = s.alerts.offer ∧
    (startTimer s).alerts.sent = s.alerts.sent ∧ (startTimer s).alerts.reRaised = s.alerts.reRaised ∧
    (startTimer s).alerts.inbox = s.alerts.inbox ∧ (startTimer s).alerts.resetsTaken = s.alerts.resetsTaken := by simp [startTimer]

@[simp] theorem startTimer_timer_kept (s : State) :
    (startTimer s).timer.resetsTaken = s.timer.resetsTaken := by simp [startTimer]

@[simp] theorem stopTimer_capture_kept (s : State) :
    (stopTimer s).capture.configs = s.capture.configs ∧ (stopTimer s).capture.units = s.capture.units ∧
    (stopTimer s).capture.number = s.capture.number ∧ (stopTimer s).capture.nextRecord = s.capture.nextRecord ∧
    (stopTimer s).capture.drainQueue = s.capture.drainQueue ∧ (stopTimer s).capture.fires = s.capture.fires ∧
    (stopTimer s).capture.resetsTaken = s.capture.resetsTaken := by simp [stopTimer]

@[simp] theorem stopTimer_stream_kept (s : State) :
    (stopTimer s).stream.counters = s.stream.counters ∧ (stopTimer s).stream.queue = s.stream.queue ∧
    (stopTimer s).stream.headMark = s.stream.headMark ∧ (stopTimer s).stream.sequence = s.stream.sequence ∧
    (stopTimer s).stream.gapCount = s.stream.gapCount ∧ (stopTimer s).stream.reloads = s.stream.reloads ∧
    (stopTimer s).stream.inbox = s.stream.inbox ∧ (stopTimer s).stream.resetsTaken = s.stream.resetsTaken := by simp [stopTimer]

@[simp] theorem stopTimer_channels_kept (s : State) :
    (stopTimer s).channels.table = s.channels.table ∧ (stopTimer s).channels.resetsTaken = s.channels.resetsTaken := by simp [stopTimer]

@[simp] theorem stopTimer_alerts_kept (s : State) :
    (stopTimer s).alerts.pending = s.alerts.pending ∧ (stopTimer s).alerts.reported = s.alerts.reported ∧
    (stopTimer s).alerts.state = s.alerts.state ∧ (stopTimer s).alerts.sequence = s.alerts.sequence ∧
    (stopTimer s).alerts.outstanding = s.alerts.outstanding ∧
    (stopTimer s).alerts.repeatCount = s.alerts.repeatCount ∧
    (stopTimer s).alerts.timerRunning = s.alerts.timerRunning ∧ (stopTimer s).alerts.offer = s.alerts.offer ∧
    (stopTimer s).alerts.sent = s.alerts.sent ∧ (stopTimer s).alerts.reRaised = s.alerts.reRaised ∧
    (stopTimer s).alerts.inbox = s.alerts.inbox ∧ (stopTimer s).alerts.resetsTaken = s.alerts.resetsTaken := by simp [stopTimer]

@[simp] theorem stopTimer_timer_kept (s : State) :
    (stopTimer s).timer.nextEpoch = s.timer.nextEpoch ∧ (stopTimer s).timer.strobe = s.timer.strobe ∧
    (stopTimer s).timer.resetsTaken = s.timer.resetsTaken := by simp [stopTimer]

@[simp] theorem applyControl_conditions_kept (r : ControlRecord) (s : State) :
    (applyControl r s).conditions.edit = s.conditions.edit ∧
    (applyControl r s).conditions.live = s.conditions.live ∧
    (applyControl r s).conditions.triggers = s.conditions.triggers ∧
    (applyControl r s).conditions.commit = s.conditions.commit ∧
    (applyControl r s).conditions.generation = s.conditions.generation ∧
    (applyControl r s).conditions.nextWalk = s.conditions.nextWalk ∧
    (applyControl r s).conditions.answers = s.conditions.answers ∧
    (applyControl r s).conditions.resetsTaken = s.conditions.resetsTaken := by
  simp only [applyControl]
  split <;> simp

@[simp] theorem applyControl_capture_kept (r : ControlRecord) (s : State) :
    (applyControl r s).capture.configs = s.capture.configs ∧ (applyControl r s).capture.units = s.capture.units ∧
    (applyControl r s).capture.number = s.capture.number ∧
    (applyControl r s).capture.nextRecord = s.capture.nextRecord ∧
    (applyControl r s).capture.drainQueue = s.capture.drainQueue ∧
    (applyControl r s).capture.fires = s.capture.fires ∧
    (applyControl r s).capture.resetsTaken = s.capture.resetsTaken := by
  simp only [applyControl]
  split <;> simp

@[simp] theorem applyControl_stream_kept (r : ControlRecord) (s : State) :
    (applyControl r s).stream.counters = s.stream.counters ∧ (applyControl r s).stream.queue = s.stream.queue ∧
    (applyControl r s).stream.headMark = s.stream.headMark ∧
    (applyControl r s).stream.sequence = s.stream.sequence ∧
    (applyControl r s).stream.gapCount = s.stream.gapCount ∧ (applyControl r s).stream.reloads = s.stream.reloads ∧
    (applyControl r s).stream.inbox = s.stream.inbox ∧ (applyControl r s).stream.resetsTaken = s.stream.resetsTaken := by
  simp only [applyControl]
  split <;> simp

@[simp] theorem applyControl_channels_kept (r : ControlRecord) (s : State) :
    (applyControl r s).channels.table = s.channels.table ∧
    (applyControl r s).channels.resetsTaken = s.channels.resetsTaken := by
  simp only [applyControl]
  split <;> simp

@[simp] theorem applyControl_alerts_kept (r : ControlRecord) (s : State) :
    (applyControl r s).alerts.pending = s.alerts.pending ∧ (applyControl r s).alerts.reported = s.alerts.reported ∧
    (applyControl r s).alerts.state = s.alerts.state ∧ (applyControl r s).alerts.sequence = s.alerts.sequence ∧
    (applyControl r s).alerts.outstanding = s.alerts.outstanding ∧
    (applyControl r s).alerts.repeatCount = s.alerts.repeatCount ∧
    (applyControl r s).alerts.timerRunning = s.alerts.timerRunning ∧
    (applyControl r s).alerts.sent = s.alerts.sent ∧ (applyControl r s).alerts.reRaised = s.alerts.reRaised ∧
    (applyControl r s).alerts.inbox = s.alerts.inbox ∧ (applyControl r s).alerts.resetsTaken = s.alerts.resetsTaken := by
  simp only [applyControl]
  split <;> simp [AlertUnit.settle_eq]

@[simp] theorem applyControl_timer_kept (r : ControlRecord) (s : State) :
    (applyControl r s).timer.state = s.timer.state ∧ (applyControl r s).timer.nextEpoch = s.timer.nextEpoch ∧
    (applyControl r s).timer.periodTimer = s.timer.periodTimer ∧ (applyControl r s).timer.strobe = s.timer.strobe ∧
    (applyControl r s).timer.resetsTaken = s.timer.resetsTaken := by
  simp only [applyControl]
  split <;> simp

@[simp] theorem applyControl_mgmt_kept (r : ControlRecord) (s : State) :
    (applyControl r s).mgmt.requests = s.mgmt.requests ∧ (applyControl r s).mgmt.exec = s.mgmt.exec ∧
    (applyControl r s).mgmt.replies = s.mgmt.replies ∧
    (applyControl r s).mgmt.inTransmission = s.mgmt.inTransmission ∧
    (applyControl r s).mgmt.deferred = s.mgmt.deferred ∧ (applyControl r s).mgmt.unanswered = s.mgmt.unanswered ∧
    (applyControl r s).mgmt.inbox = s.mgmt.inbox ∧ (applyControl r s).mgmt.resetsIssued = s.mgmt.resetsIssued ∧
    (applyControl r s).mgmt.nextWaiter = s.mgmt.nextWaiter := by
  simp only [applyControl]
  split <;> simp

@[simp] theorem applyChannel_conditions_kept (c : Fin 16) (e : ChannelEntry) (s : State) :
    (applyChannel c e s).conditions.edit = s.conditions.edit ∧
    (applyChannel c e s).conditions.live = s.conditions.live ∧
    (applyChannel c e s).conditions.triggers = s.conditions.triggers ∧
    (applyChannel c e s).conditions.commit = s.conditions.commit ∧
    (applyChannel c e s).conditions.generation = s.conditions.generation ∧
    (applyChannel c e s).conditions.nextWalk = s.conditions.nextWalk ∧
    (applyChannel c e s).conditions.answers = s.conditions.answers ∧
    (applyChannel c e s).conditions.resetsTaken = s.conditions.resetsTaken := by
  simp only [applyChannel]
  split <;> simp [replaceChannel]

@[simp] theorem applyChannel_capture_kept (c : Fin 16) (e : ChannelEntry) (s : State) :
    (applyChannel c e s).capture.configs = s.capture.configs ∧
    (applyChannel c e s).capture.units = s.capture.units ∧ (applyChannel c e s).capture.number = s.capture.number ∧
    (applyChannel c e s).capture.nextRecord = s.capture.nextRecord ∧
    (applyChannel c e s).capture.drainQueue = s.capture.drainQueue ∧
    (applyChannel c e s).capture.fires = s.capture.fires ∧
    (applyChannel c e s).capture.resetsTaken = s.capture.resetsTaken := by
  simp only [applyChannel]
  split <;> simp [replaceChannel]

@[simp] theorem applyChannel_stream_kept (c : Fin 16) (e : ChannelEntry) (s : State) :
    (applyChannel c e s).stream.counters = s.stream.counters ∧ (applyChannel c e s).stream.queue = s.stream.queue ∧
    (applyChannel c e s).stream.headMark = s.stream.headMark ∧
    (applyChannel c e s).stream.sequence = s.stream.sequence ∧
    (applyChannel c e s).stream.gapCount = s.stream.gapCount ∧ (applyChannel c e s).stream.inbox = s.stream.inbox ∧
    (applyChannel c e s).stream.resetsTaken = s.stream.resetsTaken := by
  simp only [applyChannel]
  split <;> simp [replaceChannel]

@[simp] theorem applyChannel_channels_kept (c : Fin 16) (e : ChannelEntry) (s : State) :
    (applyChannel c e s).channels.resetsTaken = s.channels.resetsTaken := by
  simp only [applyChannel]
  split <;> simp [replaceChannel]

@[simp] theorem applyChannel_alerts_kept (c : Fin 16) (e : ChannelEntry) (s : State) :
    (applyChannel c e s).alerts.pending = s.alerts.pending ∧
    (applyChannel c e s).alerts.reported = s.alerts.reported ∧ (applyChannel c e s).alerts.state = s.alerts.state ∧
    (applyChannel c e s).alerts.sequence = s.alerts.sequence ∧
    (applyChannel c e s).alerts.outstanding = s.alerts.outstanding ∧
    (applyChannel c e s).alerts.repeatCount = s.alerts.repeatCount ∧
    (applyChannel c e s).alerts.timerRunning = s.alerts.timerRunning ∧
    (applyChannel c e s).alerts.offer = s.alerts.offer ∧ (applyChannel c e s).alerts.sent = s.alerts.sent ∧
    (applyChannel c e s).alerts.reRaised = s.alerts.reRaised ∧ (applyChannel c e s).alerts.inbox = s.alerts.inbox ∧
    (applyChannel c e s).alerts.resetsTaken = s.alerts.resetsTaken := by
  simp only [applyChannel]
  split <;> simp [replaceChannel]

@[simp] theorem applyChannel_timer_kept (c : Fin 16) (e : ChannelEntry) (s : State) :
    (applyChannel c e s).timer.state = s.timer.state ∧ (applyChannel c e s).timer.nextEpoch = s.timer.nextEpoch ∧
    (applyChannel c e s).timer.periodTimer = s.timer.periodTimer ∧
    (applyChannel c e s).timer.strobe = s.timer.strobe ∧
    (applyChannel c e s).timer.resetsTaken = s.timer.resetsTaken := by
  simp only [applyChannel]
  split <;> simp [replaceChannel]

@[simp] theorem laneWord_conditions_kept (l : Fin 4) (tag : BitVec 4) (k : Fin 8) (raw : BitVec 16) (s : State) :
    (laneWord l tag k raw s).conditions.edit = s.conditions.edit ∧
    (laneWord l tag k raw s).conditions.live = s.conditions.live ∧
    (laneWord l tag k raw s).conditions.triggers = s.conditions.triggers ∧
    (laneWord l tag k raw s).conditions.commit = s.conditions.commit ∧
    (laneWord l tag k raw s).conditions.generation = s.conditions.generation ∧
    (laneWord l tag k raw s).conditions.nextWalk = s.conditions.nextWalk ∧
    (laneWord l tag k raw s).conditions.answers = s.conditions.answers ∧
    (laneWord l tag k raw s).conditions.resetsTaken = s.conditions.resetsTaken := by
  simp only [laneWord]
  repeat' split
  all_goals simp

@[simp] theorem laneWord_capture_kept (l : Fin 4) (tag : BitVec 4) (k : Fin 8) (raw : BitVec 16) (s : State) :
    (laneWord l tag k raw s).capture.configs = s.capture.configs ∧
    (laneWord l tag k raw s).capture.units = s.capture.units ∧
    (laneWord l tag k raw s).capture.number = s.capture.number ∧
    (laneWord l tag k raw s).capture.nextRecord = s.capture.nextRecord ∧
    (laneWord l tag k raw s).capture.drainQueue = s.capture.drainQueue ∧
    (laneWord l tag k raw s).capture.fires = s.capture.fires ∧
    (laneWord l tag k raw s).capture.resetsTaken = s.capture.resetsTaken := by
  simp only [laneWord]
  repeat' split
  all_goals simp

@[simp] theorem laneWord_stream_kept (l : Fin 4) (tag : BitVec 4) (k : Fin 8) (raw : BitVec 16) (s : State) :
    (laneWord l tag k raw s).stream.counters = s.stream.counters ∧
    (laneWord l tag k raw s).stream.queue = s.stream.queue ∧
    (laneWord l tag k raw s).stream.headMark = s.stream.headMark ∧
    (laneWord l tag k raw s).stream.sequence = s.stream.sequence ∧
    (laneWord l tag k raw s).stream.gapCount = s.stream.gapCount ∧
    (laneWord l tag k raw s).stream.reloads = s.stream.reloads ∧
    (laneWord l tag k raw s).stream.inbox = s.stream.inbox ∧
    (laneWord l tag k raw s).stream.resetsTaken = s.stream.resetsTaken := by
  simp only [laneWord]
  repeat' split
  all_goals simp

@[simp] theorem laneWord_channels_kept (l : Fin 4) (tag : BitVec 4) (k : Fin 8) (raw : BitVec 16) (s : State) :
    (laneWord l tag k raw s).channels.table = s.channels.table ∧
    (laneWord l tag k raw s).channels.resetsTaken = s.channels.resetsTaken := by
  simp only [laneWord]
  repeat' split
  all_goals simp

@[simp] theorem laneWord_alerts_kept (l : Fin 4) (tag : BitVec 4) (k : Fin 8) (raw : BitVec 16) (s : State) :
    (laneWord l tag k raw s).alerts.pending = s.alerts.pending ∧
    (laneWord l tag k raw s).alerts.reported = s.alerts.reported ∧
    (laneWord l tag k raw s).alerts.state = s.alerts.state ∧
    (laneWord l tag k raw s).alerts.sequence = s.alerts.sequence ∧
    (laneWord l tag k raw s).alerts.outstanding = s.alerts.outstanding ∧
    (laneWord l tag k raw s).alerts.repeatCount = s.alerts.repeatCount ∧
    (laneWord l tag k raw s).alerts.timerRunning = s.alerts.timerRunning ∧
    (laneWord l tag k raw s).alerts.offer = s.alerts.offer ∧ (laneWord l tag k raw s).alerts.sent = s.alerts.sent ∧
    (laneWord l tag k raw s).alerts.reRaised = s.alerts.reRaised ∧
    (laneWord l tag k raw s).alerts.inbox = s.alerts.inbox ∧
    (laneWord l tag k raw s).alerts.resetsTaken = s.alerts.resetsTaken := by
  simp only [laneWord]
  repeat' split
  all_goals simp

@[simp] theorem laneWord_timer_kept (l : Fin 4) (tag : BitVec 4) (k : Fin 8) (raw : BitVec 16) (s : State) :
    (laneWord l tag k raw s).timer.state = s.timer.state ∧
    (laneWord l tag k raw s).timer.nextEpoch = s.timer.nextEpoch ∧
    (laneWord l tag k raw s).timer.periodTimer = s.timer.periodTimer ∧
    (laneWord l tag k raw s).timer.strobe = s.timer.strobe ∧
    (laneWord l tag k raw s).timer.resetsTaken = s.timer.resetsTaken := by
  simp only [laneWord]
  repeat' split
  all_goals simp

@[simp] theorem badSymbol_conditions_kept (l : Fin 4) (s : State) :
    (badSymbol l s).conditions.edit = s.conditions.edit ∧ (badSymbol l s).conditions.live = s.conditions.live ∧
    (badSymbol l s).conditions.triggers = s.conditions.triggers ∧
    (badSymbol l s).conditions.commit = s.conditions.commit ∧
    (badSymbol l s).conditions.generation = s.conditions.generation ∧
    (badSymbol l s).conditions.nextWalk = s.conditions.nextWalk ∧
    (badSymbol l s).conditions.answers = s.conditions.answers ∧
    (badSymbol l s).conditions.resetsTaken = s.conditions.resetsTaken := by
  simp only [badSymbol]
  repeat' split
  all_goals simp

@[simp] theorem badSymbol_capture_kept (l : Fin 4) (s : State) :
    (badSymbol l s).capture.configs = s.capture.configs ∧ (badSymbol l s).capture.units = s.capture.units ∧
    (badSymbol l s).capture.number = s.capture.number ∧ (badSymbol l s).capture.nextRecord = s.capture.nextRecord ∧
    (badSymbol l s).capture.drainQueue = s.capture.drainQueue ∧ (badSymbol l s).capture.fires = s.capture.fires ∧
    (badSymbol l s).capture.resetsTaken = s.capture.resetsTaken := by
  simp only [badSymbol]
  repeat' split
  all_goals simp

@[simp] theorem badSymbol_stream_kept (l : Fin 4) (s : State) :
    (badSymbol l s).stream.counters = s.stream.counters ∧ (badSymbol l s).stream.queue = s.stream.queue ∧
    (badSymbol l s).stream.headMark = s.stream.headMark ∧ (badSymbol l s).stream.sequence = s.stream.sequence ∧
    (badSymbol l s).stream.gapCount = s.stream.gapCount ∧ (badSymbol l s).stream.reloads = s.stream.reloads ∧
    (badSymbol l s).stream.inbox = s.stream.inbox ∧ (badSymbol l s).stream.resetsTaken = s.stream.resetsTaken := by
  simp only [badSymbol]
  repeat' split
  all_goals simp

@[simp] theorem badSymbol_channels_kept (l : Fin 4) (s : State) :
    (badSymbol l s).channels.table = s.channels.table ∧
    (badSymbol l s).channels.resetsTaken = s.channels.resetsTaken := by
  simp only [badSymbol]
  repeat' split
  all_goals simp

@[simp] theorem badSymbol_alerts_kept (l : Fin 4) (s : State) :
    (badSymbol l s).alerts.pending = s.alerts.pending ∧ (badSymbol l s).alerts.reported = s.alerts.reported ∧
    (badSymbol l s).alerts.state = s.alerts.state ∧ (badSymbol l s).alerts.sequence = s.alerts.sequence ∧
    (badSymbol l s).alerts.outstanding = s.alerts.outstanding ∧
    (badSymbol l s).alerts.repeatCount = s.alerts.repeatCount ∧
    (badSymbol l s).alerts.timerRunning = s.alerts.timerRunning ∧ (badSymbol l s).alerts.offer = s.alerts.offer ∧
    (badSymbol l s).alerts.sent = s.alerts.sent ∧ (badSymbol l s).alerts.reRaised = s.alerts.reRaised ∧
    (badSymbol l s).alerts.inbox = s.alerts.inbox ∧ (badSymbol l s).alerts.resetsTaken = s.alerts.resetsTaken := by
  simp only [badSymbol]
  repeat' split
  all_goals simp

@[simp] theorem badSymbol_timer_kept (l : Fin 4) (s : State) :
    (badSymbol l s).timer.state = s.timer.state ∧ (badSymbol l s).timer.nextEpoch = s.timer.nextEpoch ∧
    (badSymbol l s).timer.periodTimer = s.timer.periodTimer ∧ (badSymbol l s).timer.strobe = s.timer.strobe ∧
    (badSymbol l s).timer.resetsTaken = s.timer.resetsTaken := by
  simp only [badSymbol]
  repeat' split
  all_goals simp

@[simp] theorem laneLossOfSignal_conditions_kept (l : Fin 4) (s : State) :
    (laneLossOfSignal l s).conditions.edit = s.conditions.edit ∧
    (laneLossOfSignal l s).conditions.live = s.conditions.live ∧
    (laneLossOfSignal l s).conditions.triggers = s.conditions.triggers ∧
    (laneLossOfSignal l s).conditions.commit = s.conditions.commit ∧
    (laneLossOfSignal l s).conditions.generation = s.conditions.generation ∧
    (laneLossOfSignal l s).conditions.nextWalk = s.conditions.nextWalk ∧
    (laneLossOfSignal l s).conditions.answers = s.conditions.answers ∧
    (laneLossOfSignal l s).conditions.resetsTaken = s.conditions.resetsTaken := by
  simp only [laneLossOfSignal]
  repeat' split
  all_goals simp

@[simp] theorem laneLossOfSignal_capture_kept (l : Fin 4) (s : State) :
    (laneLossOfSignal l s).capture.configs = s.capture.configs ∧
    (laneLossOfSignal l s).capture.units = s.capture.units ∧
    (laneLossOfSignal l s).capture.number = s.capture.number ∧
    (laneLossOfSignal l s).capture.nextRecord = s.capture.nextRecord ∧
    (laneLossOfSignal l s).capture.drainQueue = s.capture.drainQueue ∧
    (laneLossOfSignal l s).capture.fires = s.capture.fires ∧
    (laneLossOfSignal l s).capture.resetsTaken = s.capture.resetsTaken := by
  simp only [laneLossOfSignal]
  repeat' split
  all_goals simp

@[simp] theorem laneLossOfSignal_stream_kept (l : Fin 4) (s : State) :
    (laneLossOfSignal l s).stream.counters = s.stream.counters ∧
    (laneLossOfSignal l s).stream.queue = s.stream.queue ∧
    (laneLossOfSignal l s).stream.headMark = s.stream.headMark ∧
    (laneLossOfSignal l s).stream.sequence = s.stream.sequence ∧
    (laneLossOfSignal l s).stream.gapCount = s.stream.gapCount ∧
    (laneLossOfSignal l s).stream.reloads = s.stream.reloads ∧
    (laneLossOfSignal l s).stream.inbox = s.stream.inbox ∧
    (laneLossOfSignal l s).stream.resetsTaken = s.stream.resetsTaken := by
  simp only [laneLossOfSignal]
  repeat' split
  all_goals simp

@[simp] theorem laneLossOfSignal_channels_kept (l : Fin 4) (s : State) :
    (laneLossOfSignal l s).channels.table = s.channels.table ∧
    (laneLossOfSignal l s).channels.resetsTaken = s.channels.resetsTaken := by
  simp only [laneLossOfSignal]
  repeat' split
  all_goals simp

@[simp] theorem laneLossOfSignal_alerts_kept (l : Fin 4) (s : State) :
    (laneLossOfSignal l s).alerts.pending = s.alerts.pending ∧
    (laneLossOfSignal l s).alerts.reported = s.alerts.reported ∧
    (laneLossOfSignal l s).alerts.state = s.alerts.state ∧
    (laneLossOfSignal l s).alerts.sequence = s.alerts.sequence ∧
    (laneLossOfSignal l s).alerts.outstanding = s.alerts.outstanding ∧
    (laneLossOfSignal l s).alerts.repeatCount = s.alerts.repeatCount ∧
    (laneLossOfSignal l s).alerts.timerRunning = s.alerts.timerRunning ∧
    (laneLossOfSignal l s).alerts.offer = s.alerts.offer ∧ (laneLossOfSignal l s).alerts.sent = s.alerts.sent ∧
    (laneLossOfSignal l s).alerts.reRaised = s.alerts.reRaised ∧
    (laneLossOfSignal l s).alerts.inbox = s.alerts.inbox ∧
    (laneLossOfSignal l s).alerts.resetsTaken = s.alerts.resetsTaken := by
  simp only [laneLossOfSignal]
  repeat' split
  all_goals simp

@[simp] theorem laneLossOfSignal_timer_kept (l : Fin 4) (s : State) :
    (laneLossOfSignal l s).timer.state = s.timer.state ∧
    (laneLossOfSignal l s).timer.nextEpoch = s.timer.nextEpoch ∧
    (laneLossOfSignal l s).timer.periodTimer = s.timer.periodTimer ∧
    (laneLossOfSignal l s).timer.strobe = s.timer.strobe ∧
    (laneLossOfSignal l s).timer.resetsTaken = s.timer.resetsTaken := by
  simp only [laneLossOfSignal]
  repeat' split
  all_goals simp

@[simp] theorem periodExpiry_conditions_kept (s : State) :
    (periodExpiry s).conditions.edit = s.conditions.edit ∧ (periodExpiry s).conditions.live = s.conditions.live ∧
    (periodExpiry s).conditions.triggers = s.conditions.triggers ∧
    (periodExpiry s).conditions.commit = s.conditions.commit ∧
    (periodExpiry s).conditions.generation = s.conditions.generation ∧
    (periodExpiry s).conditions.nextWalk = s.conditions.nextWalk ∧
    (periodExpiry s).conditions.answers = s.conditions.answers ∧
    (periodExpiry s).conditions.resetsTaken = s.conditions.resetsTaken := by
  simp only [periodExpiry]
  repeat' split
  all_goals simp

@[simp] theorem periodExpiry_capture_kept (s : State) :
    (periodExpiry s).capture.configs = s.capture.configs ∧ (periodExpiry s).capture.units = s.capture.units ∧
    (periodExpiry s).capture.number = s.capture.number ∧
    (periodExpiry s).capture.nextRecord = s.capture.nextRecord ∧
    (periodExpiry s).capture.drainQueue = s.capture.drainQueue ∧ (periodExpiry s).capture.fires = s.capture.fires ∧
    (periodExpiry s).capture.resetsTaken = s.capture.resetsTaken := by
  simp only [periodExpiry]
  repeat' split
  all_goals simp

@[simp] theorem periodExpiry_stream_kept (s : State) :
    (periodExpiry s).stream.counters = s.stream.counters ∧ (periodExpiry s).stream.queue = s.stream.queue ∧
    (periodExpiry s).stream.headMark = s.stream.headMark ∧ (periodExpiry s).stream.sequence = s.stream.sequence ∧
    (periodExpiry s).stream.gapCount = s.stream.gapCount ∧ (periodExpiry s).stream.reloads = s.stream.reloads ∧
    (periodExpiry s).stream.inbox = s.stream.inbox ∧ (periodExpiry s).stream.resetsTaken = s.stream.resetsTaken := by
  simp only [periodExpiry]
  repeat' split
  all_goals simp

@[simp] theorem periodExpiry_channels_kept (s : State) :
    (periodExpiry s).channels.table = s.channels.table ∧
    (periodExpiry s).channels.resetsTaken = s.channels.resetsTaken := by
  simp only [periodExpiry]
  repeat' split
  all_goals simp

@[simp] theorem periodExpiry_alerts_kept (s : State) :
    (periodExpiry s).alerts.pending = s.alerts.pending ∧ (periodExpiry s).alerts.reported = s.alerts.reported ∧
    (periodExpiry s).alerts.state = s.alerts.state ∧ (periodExpiry s).alerts.sequence = s.alerts.sequence ∧
    (periodExpiry s).alerts.outstanding = s.alerts.outstanding ∧
    (periodExpiry s).alerts.repeatCount = s.alerts.repeatCount ∧
    (periodExpiry s).alerts.timerRunning = s.alerts.timerRunning ∧ (periodExpiry s).alerts.offer = s.alerts.offer ∧
    (periodExpiry s).alerts.sent = s.alerts.sent ∧ (periodExpiry s).alerts.reRaised = s.alerts.reRaised ∧
    (periodExpiry s).alerts.inbox = s.alerts.inbox ∧ (periodExpiry s).alerts.resetsTaken = s.alerts.resetsTaken := by
  simp only [periodExpiry]
  repeat' split
  all_goals simp

@[simp] theorem periodExpiry_timer_kept (s : State) :
    (periodExpiry s).timer.state = s.timer.state ∧ (periodExpiry s).timer.resetsTaken = s.timer.resetsTaken := by
  simp only [periodExpiry]
  repeat' split
  all_goals simp

/-! ### Fires, answers and units -/

@[simp] theorem sendFire_capture_kept (f : FireRequest) (s : State) :
    (sendFire f s).capture.configs = s.capture.configs ∧ (sendFire f s).capture.units = s.capture.units ∧
    (sendFire f s).capture.number = s.capture.number ∧ (sendFire f s).capture.nextRecord = s.capture.nextRecord ∧
    (sendFire f s).capture.drainQueue = s.capture.drainQueue ∧ (sendFire f s).capture.records = s.capture.records ∧
    (sendFire f s).capture.resetsTaken = s.capture.resetsTaken := by simp [sendFire_eq]

@[simp] theorem handleFire_capture_kept (n : Epoch) (s : State) (t : Fin 8) :
    (handleFire n s t).capture.configs = s.capture.configs ∧ (handleFire n s t).capture.units = s.capture.units ∧
    (handleFire n s t).capture.number = s.capture.number ∧
    (handleFire n s t).capture.nextRecord = s.capture.nextRecord ∧
    (handleFire n s t).capture.drainQueue = s.capture.drainQueue ∧
    (handleFire n s t).capture.records = s.capture.records ∧
    (handleFire n s t).capture.resetsTaken = s.capture.resetsTaken := by
  simp only [handleFire]
  repeat' split
  all_goals simp

@[simp] theorem handleFire_conditions_kept (n : Epoch) (s : State) (t : Fin 8) :
    (handleFire n s t).conditions.edit = s.conditions.edit ∧
    (handleFire n s t).conditions.live = s.conditions.live ∧
    (handleFire n s t).conditions.commit = s.conditions.commit ∧
    (handleFire n s t).conditions.generation = s.conditions.generation ∧
    (handleFire n s t).conditions.nextWalk = s.conditions.nextWalk ∧
    (handleFire n s t).conditions.records = s.conditions.records ∧
    (handleFire n s t).conditions.answers = s.conditions.answers ∧
    (handleFire n s t).conditions.resetsTaken = s.conditions.resetsTaken := by
  simp only [handleFire]
  repeat' split
  all_goals simp

@[simp] theorem handleFires_capture_kept (n : Epoch) (ts : List (Fin 8)) (s : State) :
    (ts.foldl (handleFire n) s).capture.configs = s.capture.configs ∧
    (ts.foldl (handleFire n) s).capture.units = s.capture.units ∧
    (ts.foldl (handleFire n) s).capture.number = s.capture.number ∧
    (ts.foldl (handleFire n) s).capture.nextRecord = s.capture.nextRecord ∧
    (ts.foldl (handleFire n) s).capture.drainQueue = s.capture.drainQueue ∧
    (ts.foldl (handleFire n) s).capture.records = s.capture.records ∧
    (ts.foldl (handleFire n) s).capture.resetsTaken = s.capture.resetsTaken := by
  induction ts generalizing s with
  | nil => simp
  | cons t ts ih => simp [ih]

@[simp] theorem handleFires_conditions_kept (n : Epoch) (ts : List (Fin 8)) (s : State) :
    (ts.foldl (handleFire n) s).conditions.edit = s.conditions.edit ∧
    (ts.foldl (handleFire n) s).conditions.live = s.conditions.live ∧
    (ts.foldl (handleFire n) s).conditions.commit = s.conditions.commit ∧
    (ts.foldl (handleFire n) s).conditions.generation = s.conditions.generation ∧
    (ts.foldl (handleFire n) s).conditions.nextWalk = s.conditions.nextWalk ∧
    (ts.foldl (handleFire n) s).conditions.records = s.conditions.records ∧
    (ts.foldl (handleFire n) s).conditions.answers = s.conditions.answers ∧
    (ts.foldl (handleFire n) s).conditions.resetsTaken = s.conditions.resetsTaken := by
  induction ts generalizing s with
  | nil => simp
  | cons t ts ih => simp [ih]

@[simp] theorem swapPending_conditions_kept (e : Epoch) (s : State) :
    (swapPending e s).conditions.edit = s.conditions.edit ∧
    (swapPending e s).conditions.nextWalk = s.conditions.nextWalk ∧
    (swapPending e s).conditions.records = s.conditions.records ∧
    (swapPending e s).conditions.answers = s.conditions.answers ∧
    (swapPending e s).conditions.resetsTaken = s.conditions.resetsTaken := by
  simp only [swapPending]
  split <;> simp [swapBanks]

@[simp] theorem releaseDeferred_mgmt_kept (e : Epoch) (s : State) :
    (releaseDeferred e s).mgmt.requests = s.mgmt.requests ∧ (releaseDeferred e s).mgmt.exec = s.mgmt.exec ∧
    (releaseDeferred e s).mgmt.inTransmission = s.mgmt.inTransmission ∧
    (releaseDeferred e s).mgmt.unanswered = s.mgmt.unanswered ∧
    (releaseDeferred e s).mgmt.control = s.mgmt.control ∧ (releaseDeferred e s).mgmt.inbox = s.mgmt.inbox ∧
    (releaseDeferred e s).mgmt.resetsIssued = s.mgmt.resetsIssued ∧
    (releaseDeferred e s).mgmt.nextWaiter = s.mgmt.nextWaiter := by
  simp only [releaseDeferred]
  split <;> simp [queueReply]

@[simp] theorem swapPending_mgmt_kept (e : Epoch) (s : State) :
    (swapPending e s).mgmt.requests = s.mgmt.requests ∧ (swapPending e s).mgmt.exec = s.mgmt.exec ∧
    (swapPending e s).mgmt.inTransmission = s.mgmt.inTransmission ∧
    (swapPending e s).mgmt.unanswered = s.mgmt.unanswered ∧ (swapPending e s).mgmt.control = s.mgmt.control ∧
    (swapPending e s).mgmt.inbox = s.mgmt.inbox ∧ (swapPending e s).mgmt.resetsIssued = s.mgmt.resetsIssued ∧
    (swapPending e s).mgmt.nextWaiter = s.mgmt.nextWaiter := by
  simp only [swapPending]
  split <;> simp

@[simp] theorem walkRecord_capture_kept (r : EpochRecord) (s : State) :
    (walkRecord r s).capture.configs = s.capture.configs ∧ (walkRecord r s).capture.units = s.capture.units ∧
    (walkRecord r s).capture.number = s.capture.number ∧
    (walkRecord r s).capture.nextRecord = s.capture.nextRecord ∧
    (walkRecord r s).capture.drainQueue = s.capture.drainQueue ∧
    (walkRecord r s).capture.records = s.capture.records ∧
    (walkRecord r s).capture.resetsTaken = s.capture.resetsTaken := by simp [walkRecord]

@[simp] theorem walkRecord_mgmt_kept (r : EpochRecord) (s : State) :
    (walkRecord r s).mgmt.requests = s.mgmt.requests ∧ (walkRecord r s).mgmt.exec = s.mgmt.exec ∧
    (walkRecord r s).mgmt.inTransmission = s.mgmt.inTransmission ∧
    (walkRecord r s).mgmt.unanswered = s.mgmt.unanswered ∧ (walkRecord r s).mgmt.control = s.mgmt.control ∧
    (walkRecord r s).mgmt.inbox = s.mgmt.inbox ∧ (walkRecord r s).mgmt.resetsIssued = s.mgmt.resetsIssued ∧
    (walkRecord r s).mgmt.nextWaiter = s.mgmt.nextWaiter := by simp [walkRecord]

@[simp] theorem walk_capture_kept (s : State) :
    (walk s).capture.configs = s.capture.configs ∧ (walk s).capture.units = s.capture.units ∧
    (walk s).capture.number = s.capture.number ∧ (walk s).capture.nextRecord = s.capture.nextRecord ∧
    (walk s).capture.drainQueue = s.capture.drainQueue ∧ (walk s).capture.records = s.capture.records ∧
    (walk s).capture.resetsTaken = s.capture.resetsTaken := by
  simp only [walk]
  repeat' split
  all_goals simp

@[simp] theorem stopTimer_mgmt_kept (s : State) :
    (stopTimer s).mgmt.requests = s.mgmt.requests ∧ (stopTimer s).mgmt.exec = s.mgmt.exec ∧
    (stopTimer s).mgmt.inTransmission = s.mgmt.inTransmission ∧ (stopTimer s).mgmt.unanswered = s.mgmt.unanswered ∧
    (stopTimer s).mgmt.control = s.mgmt.control ∧ (stopTimer s).mgmt.inbox = s.mgmt.inbox ∧
    (stopTimer s).mgmt.resetsIssued = s.mgmt.resetsIssued ∧ (stopTimer s).mgmt.nextWaiter = s.mgmt.nextWaiter := by simp [stopTimer]

@[simp] theorem dropDeferred_mgmt_kept (s : State) :
    (dropDeferred s).mgmt.requests = s.mgmt.requests ∧ (dropDeferred s).mgmt.exec = s.mgmt.exec ∧
    (dropDeferred s).mgmt.replies = s.mgmt.replies ∧ (dropDeferred s).mgmt.inTransmission = s.mgmt.inTransmission ∧
    (dropDeferred s).mgmt.control = s.mgmt.control ∧ (dropDeferred s).mgmt.inbox = s.mgmt.inbox ∧
    (dropDeferred s).mgmt.resetsIssued = s.mgmt.resetsIssued ∧ (dropDeferred s).mgmt.nextWaiter = s.mgmt.nextWaiter := by
  simp only [dropDeferred]
  repeat' split
  all_goals simp

@[simp] theorem cancelCommit_mgmt_kept (s : State) :
    (cancelCommit s).mgmt.requests = s.mgmt.requests ∧ (cancelCommit s).mgmt.exec = s.mgmt.exec ∧
    (cancelCommit s).mgmt.replies = s.mgmt.replies ∧ (cancelCommit s).mgmt.inTransmission = s.mgmt.inTransmission ∧
    (cancelCommit s).mgmt.control = s.mgmt.control ∧ (cancelCommit s).mgmt.inbox = s.mgmt.inbox ∧
    (cancelCommit s).mgmt.resetsIssued = s.mgmt.resetsIssued ∧ (cancelCommit s).mgmt.nextWaiter = s.mgmt.nextWaiter := by simp [cancelCommit]

@[simp] theorem cancelCommit_conditions_kept (s : State) :
    (cancelCommit s).conditions.edit = s.conditions.edit ∧ (cancelCommit s).conditions.live = s.conditions.live ∧
    (cancelCommit s).conditions.triggers = s.conditions.triggers ∧
    (cancelCommit s).conditions.generation = s.conditions.generation ∧
    (cancelCommit s).conditions.nextWalk = s.conditions.nextWalk ∧
    (cancelCommit s).conditions.records = s.conditions.records ∧
    (cancelCommit s).conditions.answers = s.conditions.answers ∧
    (cancelCommit s).conditions.resetsTaken = s.conditions.resetsTaken := by simp [cancelCommit]

@[simp] theorem resetTimer_mgmt_kept (s : State) :
    (resetTimer s).mgmt.requests = s.mgmt.requests ∧ (resetTimer s).mgmt.exec = s.mgmt.exec ∧
    (resetTimer s).mgmt.replies = s.mgmt.replies ∧ (resetTimer s).mgmt.inTransmission = s.mgmt.inTransmission ∧
    (resetTimer s).mgmt.control = s.mgmt.control ∧ (resetTimer s).mgmt.inbox = s.mgmt.inbox ∧
    (resetTimer s).mgmt.resetsIssued = s.mgmt.resetsIssued ∧ (resetTimer s).mgmt.nextWaiter = s.mgmt.nextWaiter := by
  simp only [resetTimer]
  repeat' split
  all_goals simp

@[simp] theorem resetTimer_conditions_kept (s : State) :
    (resetTimer s).conditions.edit = s.conditions.edit ∧ (resetTimer s).conditions.live = s.conditions.live ∧
    (resetTimer s).conditions.triggers = s.conditions.triggers ∧
    (resetTimer s).conditions.generation = s.conditions.generation ∧
    (resetTimer s).conditions.nextWalk = s.conditions.nextWalk ∧
    (resetTimer s).conditions.records = s.conditions.records ∧
    (resetTimer s).conditions.answers = s.conditions.answers ∧
    (resetTimer s).conditions.resetsTaken = s.conditions.resetsTaken := by
  simp only [resetTimer]
  repeat' split
  all_goals simp

@[simp] theorem forceFire_capture_kept (t : Fin 8) (u : Fin 4) (e : Epoch) (s : State) :
    (forceFire t u e s).capture.configs = s.capture.configs ∧ (forceFire t u e s).capture.units = s.capture.units ∧
    (forceFire t u e s).capture.number = s.capture.number ∧
    (forceFire t u e s).capture.nextRecord = s.capture.nextRecord ∧
    (forceFire t u e s).capture.drainQueue = s.capture.drainQueue ∧
    (forceFire t u e s).capture.records = s.capture.records ∧
    (forceFire t u e s).capture.resetsTaken = s.capture.resetsTaken := by simp [forceFire]

@[simp] theorem forceFire_mgmt_kept (t : Fin 8) (u : Fin 4) (e : Epoch) (s : State) :
    (forceFire t u e s).mgmt.requests = s.mgmt.requests ∧ (forceFire t u e s).mgmt.replies = s.mgmt.replies ∧
    (forceFire t u e s).mgmt.inTransmission = s.mgmt.inTransmission ∧
    (forceFire t u e s).mgmt.deferred = s.mgmt.deferred ∧ (forceFire t u e s).mgmt.unanswered = s.mgmt.unanswered ∧
    (forceFire t u e s).mgmt.control = s.mgmt.control ∧ (forceFire t u e s).mgmt.inbox = s.mgmt.inbox ∧
    (forceFire t u e s).mgmt.resetsIssued = s.mgmt.resetsIssued := by simp [forceFire]

@[simp] theorem fire_capture_kept (q : Request) (s : State) :
    (fire q s).capture.configs = s.capture.configs ∧ (fire q s).capture.units = s.capture.units ∧
    (fire q s).capture.number = s.capture.number ∧ (fire q s).capture.nextRecord = s.capture.nextRecord ∧
    (fire q s).capture.drainQueue = s.capture.drainQueue ∧ (fire q s).capture.records = s.capture.records ∧
    (fire q s).capture.resetsTaken = s.capture.resetsTaken := by
  simp only [fire]
  repeat' split
  all_goals simp

@[simp] theorem fire_conditions_kept (q : Request) (s : State) :
    (fire q s).conditions.edit = s.conditions.edit ∧ (fire q s).conditions.live = s.conditions.live ∧
    (fire q s).conditions.commit = s.conditions.commit ∧
    (fire q s).conditions.generation = s.conditions.generation ∧
    (fire q s).conditions.nextWalk = s.conditions.nextWalk ∧ (fire q s).conditions.records = s.conditions.records ∧
    (fire q s).conditions.answers = s.conditions.answers ∧
    (fire q s).conditions.resetsTaken = s.conditions.resetsTaken := by
  simp only [fire]
  repeat' split
  all_goals simp

@[simp] theorem returnAnswer_conditions_kept (f : FireRequest) (a : Answer) (s : State) :
    (returnAnswer f a s).conditions.edit = s.conditions.edit ∧
    (returnAnswer f a s).conditions.live = s.conditions.live ∧
    (returnAnswer f a s).conditions.triggers = s.conditions.triggers ∧
    (returnAnswer f a s).conditions.commit = s.conditions.commit ∧
    (returnAnswer f a s).conditions.generation = s.conditions.generation ∧
    (returnAnswer f a s).conditions.nextWalk = s.conditions.nextWalk ∧
    (returnAnswer f a s).conditions.records = s.conditions.records ∧
    (returnAnswer f a s).conditions.resetsTaken = s.conditions.resetsTaken := by simp [returnAnswer_eq]

@[simp] theorem startCapture_conditions_kept (f : FireRequest) (e : Epoch) (s : State) :
    (startCapture f e s).conditions.edit = s.conditions.edit ∧
    (startCapture f e s).conditions.live = s.conditions.live ∧
    (startCapture f e s).conditions.triggers = s.conditions.triggers ∧
    (startCapture f e s).conditions.commit = s.conditions.commit ∧
    (startCapture f e s).conditions.generation = s.conditions.generation ∧
    (startCapture f e s).conditions.nextWalk = s.conditions.nextWalk ∧
    (startCapture f e s).conditions.records = s.conditions.records ∧
    (startCapture f e s).conditions.resetsTaken = s.conditions.resetsTaken := by simp [startCapture]

@[simp] theorem startCapture_capture_kept (f : FireRequest) (e : Epoch) (s : State) :
    (startCapture f e s).capture.configs = s.capture.configs ∧
    (startCapture f e s).capture.nextRecord = s.capture.nextRecord ∧
    (startCapture f e s).capture.records = s.capture.records ∧
    (startCapture f e s).capture.fires = s.capture.fires ∧
    (startCapture f e s).capture.resetsTaken = s.capture.resetsTaken := by simp [startCapture, putFrozen_eq]

@[simp] theorem takeFire_conditions_kept (f : FireRequest) (s : State) :
    (takeFire f s).conditions.edit = s.conditions.edit ∧ (takeFire f s).conditions.live = s.conditions.live ∧
    (takeFire f s).conditions.triggers = s.conditions.triggers ∧
    (takeFire f s).conditions.commit = s.conditions.commit ∧
    (takeFire f s).conditions.generation = s.conditions.generation ∧
    (takeFire f s).conditions.nextWalk = s.conditions.nextWalk ∧
    (takeFire f s).conditions.records = s.conditions.records ∧
    (takeFire f s).conditions.resetsTaken = s.conditions.resetsTaken := by
  simp only [takeFire]
  repeat' split
  all_goals simp

@[simp] theorem takeFire_capture_kept (f : FireRequest) (s : State) :
    (takeFire f s).capture.configs = s.capture.configs ∧ (takeFire f s).capture.nextRecord = s.capture.nextRecord ∧
    (takeFire f s).capture.records = s.capture.records ∧ (takeFire f s).capture.fires = s.capture.fires ∧
    (takeFire f s).capture.resetsTaken = s.capture.resetsTaken := by
  simp only [takeFire]
  repeat' split
  all_goals simp

@[simp] theorem countAnswer_conditions_kept (a : FireAnswer) (s : State) :
    (countAnswer a s).conditions.edit = s.conditions.edit ∧ (countAnswer a s).conditions.live = s.conditions.live ∧
    (countAnswer a s).conditions.commit = s.conditions.commit ∧
    (countAnswer a s).conditions.generation = s.conditions.generation ∧
    (countAnswer a s).conditions.nextWalk = s.conditions.nextWalk ∧
    (countAnswer a s).conditions.records = s.conditions.records ∧
    (countAnswer a s).conditions.answers = s.conditions.answers ∧
    (countAnswer a s).conditions.resetsTaken = s.conditions.resetsTaken := by
  simp only [countAnswer]
  repeat' split
  all_goals simp

@[simp] theorem countAnswer_alerts_kept (a : FireAnswer) (s : State) :
    (countAnswer a s).alerts.pending = s.alerts.pending ∧ (countAnswer a s).alerts.reported = s.alerts.reported ∧
    (countAnswer a s).alerts.state = s.alerts.state ∧ (countAnswer a s).alerts.sequence = s.alerts.sequence ∧
    (countAnswer a s).alerts.outstanding = s.alerts.outstanding ∧
    (countAnswer a s).alerts.repeatCount = s.alerts.repeatCount ∧
    (countAnswer a s).alerts.timerRunning = s.alerts.timerRunning ∧
    (countAnswer a s).alerts.offer = s.alerts.offer ∧ (countAnswer a s).alerts.sent = s.alerts.sent ∧
    (countAnswer a s).alerts.reRaised = s.alerts.reRaised ∧ (countAnswer a s).alerts.inbox = s.alerts.inbox ∧
    (countAnswer a s).alerts.resetsTaken = s.alerts.resetsTaken := by
  simp only [countAnswer]
  repeat' split
  all_goals simp

@[simp] theorem completeFire_mgmt_kept (a : FireAnswer) (s : State) :
    (completeFire a s).mgmt.inTransmission = s.mgmt.inTransmission ∧
    (completeFire a s).mgmt.deferred = s.mgmt.deferred ∧ (completeFire a s).mgmt.unanswered = s.mgmt.unanswered ∧
    (completeFire a s).mgmt.control = s.mgmt.control ∧ (completeFire a s).mgmt.inbox = s.mgmt.inbox ∧
    (completeFire a s).mgmt.resetsIssued = s.mgmt.resetsIssued ∧
    (completeFire a s).mgmt.nextWaiter = s.mgmt.nextWaiter := by
  simp only [completeFire]
  repeat' split
  all_goals simp

@[simp] theorem fireAnswer_conditions_kept (s : State) :
    (fireAnswer s).conditions.edit = s.conditions.edit ∧ (fireAnswer s).conditions.live = s.conditions.live ∧
    (fireAnswer s).conditions.commit = s.conditions.commit ∧
    (fireAnswer s).conditions.generation = s.conditions.generation ∧
    (fireAnswer s).conditions.nextWalk = s.conditions.nextWalk ∧
    (fireAnswer s).conditions.records = s.conditions.records ∧
    (fireAnswer s).conditions.resetsTaken = s.conditions.resetsTaken := by
  simp only [fireAnswer]
  repeat' split
  all_goals simp

@[simp] theorem releaseUnit_capture_kept (u : Fin 4) (s : State) :
    (releaseUnit u s).capture.configs = s.capture.configs ∧ (releaseUnit u s).capture.number = s.capture.number ∧
    (releaseUnit u s).capture.nextRecord = s.capture.nextRecord ∧
    (releaseUnit u s).capture.drainQueue = s.capture.drainQueue ∧
    (releaseUnit u s).capture.records = s.capture.records ∧ (releaseUnit u s).capture.fires = s.capture.fires ∧
    (releaseUnit u s).capture.resetsTaken = s.capture.resetsTaken := by simp [releaseUnit]

@[simp] theorem deliverUnit_capture_kept (u : Fin 4) (s : State) :
    (deliverUnit u s).capture.configs = s.capture.configs ∧ (deliverUnit u s).capture.number = s.capture.number ∧
    (deliverUnit u s).capture.nextRecord = s.capture.nextRecord ∧
    (deliverUnit u s).capture.drainQueue = s.capture.drainQueue ∧
    (deliverUnit u s).capture.records = s.capture.records ∧ (deliverUnit u s).capture.fires = s.capture.fires ∧
    (deliverUnit u s).capture.resetsTaken = s.capture.resetsTaken := by
  simp only [deliverUnit]
  repeat' split
  all_goals simp

@[simp] theorem returnUnit_capture_kept (u : Fin 4) (s : State) :
    (returnUnit u s).capture.configs = s.capture.configs ∧ (returnUnit u s).capture.number = s.capture.number ∧
    (returnUnit u s).capture.nextRecord = s.capture.nextRecord ∧
    (returnUnit u s).capture.records = s.capture.records ∧ (returnUnit u s).capture.fires = s.capture.fires ∧
    (returnUnit u s).capture.resetsTaken = s.capture.resetsTaken := by simp [returnUnit]

@[simp] theorem frameCompleted_capture_kept (d : Drain) (r : CaptureRecord) (s : State) :
    (frameCompleted d r s).capture.configs = s.capture.configs ∧
    (frameCompleted d r s).capture.number = s.capture.number ∧
    (frameCompleted d r s).capture.nextRecord = s.capture.nextRecord ∧
    (frameCompleted d r s).capture.records = s.capture.records ∧
    (frameCompleted d r s).capture.fires = s.capture.fires ∧
    (frameCompleted d r s).capture.resetsTaken = s.capture.resetsTaken := by
  simp only [frameCompleted]
  repeat' split
  all_goals simp

@[simp] theorem frameCompleted_alerts_kept (d : Drain) (r : CaptureRecord) (s : State) :
    (frameCompleted d r s).alerts.pending = s.alerts.pending ∧
    (frameCompleted d r s).alerts.reported = s.alerts.reported ∧
    (frameCompleted d r s).alerts.state = s.alerts.state ∧
    (frameCompleted d r s).alerts.sequence = s.alerts.sequence ∧
    (frameCompleted d r s).alerts.outstanding = s.alerts.outstanding ∧
    (frameCompleted d r s).alerts.repeatCount = s.alerts.repeatCount ∧
    (frameCompleted d r s).alerts.timerRunning = s.alerts.timerRunning ∧
    (frameCompleted d r s).alerts.offer = s.alerts.offer ∧ (frameCompleted d r s).alerts.sent = s.alerts.sent ∧
    (frameCompleted d r s).alerts.reRaised = s.alerts.reRaised ∧
    (frameCompleted d r s).alerts.inbox = s.alerts.inbox ∧
    (frameCompleted d r s).alerts.resetsTaken = s.alerts.resetsTaken := by
  simp only [frameCompleted]
  repeat' split
  all_goals simp

@[simp] theorem frameCompletedAlone_alerts_kept (d : Drain) (s : State) :
    (frameCompletedAlone d s).alerts.pending = s.alerts.pending ∧
    (frameCompletedAlone d s).alerts.reported = s.alerts.reported ∧
    (frameCompletedAlone d s).alerts.state = s.alerts.state ∧
    (frameCompletedAlone d s).alerts.sequence = s.alerts.sequence ∧
    (frameCompletedAlone d s).alerts.outstanding = s.alerts.outstanding ∧
    (frameCompletedAlone d s).alerts.repeatCount = s.alerts.repeatCount ∧
    (frameCompletedAlone d s).alerts.timerRunning = s.alerts.timerRunning ∧
    (frameCompletedAlone d s).alerts.offer = s.alerts.offer ∧
    (frameCompletedAlone d s).alerts.sent = s.alerts.sent ∧
    (frameCompletedAlone d s).alerts.reRaised = s.alerts.reRaised ∧
    (frameCompletedAlone d s).alerts.inbox = s.alerts.inbox ∧
    (frameCompletedAlone d s).alerts.resetsTaken = s.alerts.resetsTaken := by
  simp only [frameCompletedAlone]
  repeat' split
  all_goals simp

@[simp] theorem takeCaptureCompletion_capture_kept (s : State) :
    (takeCaptureCompletion s).capture.configs = s.capture.configs ∧
    (takeCaptureCompletion s).capture.number = s.capture.number ∧
    (takeCaptureCompletion s).capture.nextRecord = s.capture.nextRecord ∧
    (takeCaptureCompletion s).capture.records = s.capture.records ∧
    (takeCaptureCompletion s).capture.fires = s.capture.fires ∧
    (takeCaptureCompletion s).capture.resetsTaken = s.capture.resetsTaken := by
  simp only [takeCaptureCompletion]
  repeat' split
  all_goals simp

@[simp] theorem takeCaptureCompletion_alerts_kept (s : State) :
    (takeCaptureCompletion s).alerts.pending = s.alerts.pending ∧
    (takeCaptureCompletion s).alerts.reported = s.alerts.reported ∧
    (takeCaptureCompletion s).alerts.state = s.alerts.state ∧
    (takeCaptureCompletion s).alerts.sequence = s.alerts.sequence ∧
    (takeCaptureCompletion s).alerts.outstanding = s.alerts.outstanding ∧
    (takeCaptureCompletion s).alerts.repeatCount = s.alerts.repeatCount ∧
    (takeCaptureCompletion s).alerts.timerRunning = s.alerts.timerRunning ∧
    (takeCaptureCompletion s).alerts.offer = s.alerts.offer ∧
    (takeCaptureCompletion s).alerts.sent = s.alerts.sent ∧
    (takeCaptureCompletion s).alerts.reRaised = s.alerts.reRaised ∧
    (takeCaptureCompletion s).alerts.inbox = s.alerts.inbox ∧
    (takeCaptureCompletion s).alerts.resetsTaken = s.alerts.resetsTaken := by
  simp only [takeCaptureCompletion]
  repeat' split
  all_goals simp

@[simp] theorem queueFrame_alerts_kept (e : Epoch) (v : List (Fin 16 × Option Value)) (s : State) :
    (queueFrame e v s).alerts.pending = s.alerts.pending ∧ (queueFrame e v s).alerts.reported = s.alerts.reported ∧
    (queueFrame e v s).alerts.state = s.alerts.state ∧ (queueFrame e v s).alerts.sequence = s.alerts.sequence ∧
    (queueFrame e v s).alerts.outstanding = s.alerts.outstanding ∧
    (queueFrame e v s).alerts.repeatCount = s.alerts.repeatCount ∧
    (queueFrame e v s).alerts.timerRunning = s.alerts.timerRunning ∧
    (queueFrame e v s).alerts.offer = s.alerts.offer ∧ (queueFrame e v s).alerts.sent = s.alerts.sent ∧
    (queueFrame e v s).alerts.reRaised = s.alerts.reRaised ∧ (queueFrame e v s).alerts.inbox = s.alerts.inbox ∧
    (queueFrame e v s).alerts.resetsTaken = s.alerts.resetsTaken := by
  simp only [queueFrame]
  repeat' split
  all_goals simp

@[simp] theorem streamRecord_alerts_kept (r : EpochRecord) (s : State) :
    (streamRecord r s).alerts.pending = s.alerts.pending ∧ (streamRecord r s).alerts.reported = s.alerts.reported ∧
    (streamRecord r s).alerts.state = s.alerts.state ∧ (streamRecord r s).alerts.sequence = s.alerts.sequence ∧
    (streamRecord r s).alerts.outstanding = s.alerts.outstanding ∧
    (streamRecord r s).alerts.repeatCount = s.alerts.repeatCount ∧
    (streamRecord r s).alerts.timerRunning = s.alerts.timerRunning ∧
    (streamRecord r s).alerts.offer = s.alerts.offer ∧ (streamRecord r s).alerts.sent = s.alerts.sent ∧
    (streamRecord r s).alerts.reRaised = s.alerts.reRaised ∧ (streamRecord r s).alerts.inbox = s.alerts.inbox ∧
    (streamRecord r s).alerts.resetsTaken = s.alerts.resetsTaken := by
  simp only [streamRecord]
  repeat' split
  all_goals simp

end Sys2Proof.Machine
end

