-- ==== Sys2Proof/Laws/Ops.lean ====
section
/-! SUPPORT. What each shared operation of Machine/Ops.lean can do, said once: the arbiter, the reply to the head request,
the execution of a request, and the saturating count. -/

namespace Sys2Proof.Machine

/-! ### Counts -/

theorem satAdd_le (limit n k : Nat) : satAdd limit n k ≤ limit := Nat.min_le_left _ _

theorem satAdd_of_le {limit n k : Nat} (h : n + k ≤ limit) : satAdd limit n k = n + k := Nat.min_eq_right h

theorem satAdd_of_full {limit n k : Nat} (h : limit ≤ n + k) : satAdd limit n k = limit := Nat.min_eq_left h

/-! ### The arbiter (R152) -/

@[simp] theorem lossWaits_iff (inbox : List LinkReport) : lossWaits inbox = true ↔ .linkLoss ∈ inbox := by
  simp [lossWaits]

theorem endLost_iff (d : Drain) (inbox : List LinkReport) :
    endLost d inbox = true ↔ (∃ o, d.position = .finish o) ∧ d.cut = true ∧ .linkLoss ∈ inbox := by
  cases h : d.position <;> simp [endLost, h]

/-! With a link loss still to take, the reply queue and the stream queue offer nothing. -/

theorem replyOffer_lossWaits {s : State} (h : lossWaits s.mgmt.inbox = true) : replyOffer s = none := if_pos h

theorem streamOffer_lossWaits {s : State} (h : lossWaits s.stream.inbox = true) : streamOffer s = none := if_pos h

/-- A frame is ready only when one of the four sources offers it, the higher sources offering none. -/
theorem readyFrame_cases {s : State} {f : Source × UpFrame} (h : readyFrame s = some f) :
    replyOffer s = some f ∨ (replyOffer s = none ∧ alertOffer s = some f) ∨
    (replyOffer s = none ∧ alertOffer s = none ∧ captureOffer s = some f) ∨
    (replyOffer s = none ∧ alertOffer s = none ∧ captureOffer s = none ∧ streamOffer s = some f) := by
  unfold readyFrame at h
  split at h
  · next f' hr => cases h; exact .inl hr
  · next hr =>
    split at h
    · next f' ha => cases h; exact .inr (.inl ⟨hr, ha⟩)
    · next ha =>
      split at h
      · next f' hc => cases h; exact .inr (.inr (.inl ⟨hr, ha, hc⟩))
      · next hc => exact .inr (.inr (.inr ⟨hr, ha, hc, h⟩))

/-- The state after the arbiter has started a frame (R152 steps 1 to 3). -/
def started (src : Source) (f : UpFrame) (s : State) : State :=
  (markStarted src s).setLink { s.link with
    credit := s.link.credit - 1, tx := some { frame := f, source := src, void := false } }

theorem canStart_iff (s : State) :
    canStart s = true ↔ s.link.state = .up ∧ s.link.tx = none ∧ 1 ≤ s.link.credit := by
  simp [canStart, and_assoc]

/-- The arbiter starts the ready frame when the link is UP, the transmitter IDLE and the credit at least 1. -/
theorem arbitrate_start {s : State} {src : Source} {f : UpFrame} (hs : canStart s = true)
    (hf : readyFrame s = some (src, f)) : arbitrate s = started src f s := by
  simp [arbitrate, hs, hf, started]

/-- The arbiter does nothing while it may not start a frame. -/
theorem arbitrate_wait {s : State} (hs : canStart s = false) : arbitrate s = s := by
  simp [arbitrate, hs]

theorem arbitrate_idle {s : State} (hf : readyFrame s = none) : arbitrate s = s := by
  simp [arbitrate, hf]

/-- All the arbiter can do: nothing, or the start of the ready frame. -/
theorem arbitrate_cases (s : State) : arbitrate s = s ∨
    ∃ src f, canStart s = true ∧ readyFrame s = some (src, f) ∧ arbitrate s = started src f s := by
  by_cases hs : canStart s = true
  · cases hf : readyFrame s with
    | none => exact .inl (arbitrate_idle hf)
    | some p => exact .inr ⟨p.1, p.2, hs, rfl, arbitrate_start hs hf⟩
  · exact .inl (arbitrate_wait (by simpa using hs))

/-! ### Replies and requests (R159, R161) -/

theorem finishHead_cons {s : State} {q : Request} {rest : List Request} (h : s.mgmt.requests = q :: rest)
    (st : Status) (c : ReplyContent) :
    finishHead st c s = s.setMgmt { s.mgmt with
      requests := rest, exec := .idle,
      replies := s.mgmt.replies ++ [{ tag := q.tag, kind := q.kind, status := st, content := c }] } := by
  simp [finishHead, h]

theorem finishHead_nil {s : State} (h : s.mgmt.requests = []) (st : Status) (c : ReplyContent) :
    finishHead st c s = s := by
  simp [finishHead, h]

/-- A request of the row stands at the head of the queue with nothing in execution. -/
theorem execHead_run {s : State} {q : Request} {rest : List Request} {row : RequestRow}
    (he : s.mgmt.exec = .idle) (hq : s.mgmt.requests = q :: rest) (hr : q.row = row)
    (act : Request → State → State) : execHead row act s = arbitrate (act q s) := by
  simp [execHead, he, hq, hr]

/-- All the execution of a row can do: nothing, or the row's action on the head request and then the arbiter. -/
theorem execHead_cases (row : RequestRow) (act : Request → State → State) (s : State) :
    execHead row act s = s ∨ ∃ q rest, s.mgmt.exec = .idle ∧ s.mgmt.requests = q :: rest ∧ q.row = row ∧
      execHead row act s = arbitrate (act q s) := by
  unfold execHead
  split
  · next q rest he hq =>
    split
    · next hr => exact .inr ⟨q, rest, he, hq, hr, rfl⟩
    · exact .inl rfl
  · exact .inl rfl

/-- A property that the action and the arbiter keep is kept by the execution of a request. -/
theorem execHead_keeps (P : State → Prop) {row : RequestRow} {act : Request → State → State} {s : State}
    (hs : P s) (hact : ∀ q rest, s.mgmt.exec = .idle → s.mgmt.requests = q :: rest → P (act q s))
    (harb : ∀ t, P t → P (arbitrate t)) : P (execHead row act s) := by
  obtain h | ⟨q, rest, he, hq, -, h⟩ := execHead_cases row act s
  · rwa [h]
  · rw [h]
    exact harb _ (hact q rest he hq)

end Sys2Proof.Machine
end

