-- ==== Sys2Proof/Laws/PerInstr.lean ====
section
/-! SUPPORT. The family `LengthChecked`: what the static check of a command asks for, one lemma per constructor. -/

namespace Sys2Proof.Laws.LengthChecked

/-- The static check passes exactly when the command, if it is a REQUEST frame, has a body of one of the seven lengths
of Table 12-2. -/
def Statement (i : Instr) : Prop :=
  i.wellFormed = true ↔ ∀ tag body, i = .requestFrame tag body → body.length ∈ requestLengths

/-- A command that is no REQUEST frame passes. -/
theorem of_not_request {i : Instr} (h : ∀ tag body, i ≠ .requestFrame tag body) (w : i.wellFormed = true) :
    Statement i :=
  ⟨fun _ tag body e => absurd e (h tag body), fun _ => w⟩

theorem coldReset : Statement .coldReset := of_not_request nofun rfl
theorem epochStart : Statement .epochStart := of_not_request nofun rfl
theorem epochStop : Statement .epochStop := of_not_request nofun rfl
theorem periodExpiry : Statement .periodExpiry := of_not_request nofun rfl
theorem laneWord (lane : Fin 4) (tag : BitVec 4) (slot : Fin 8) (raw : BitVec 16) : Statement (.laneWord lane tag slot raw) := of_not_request nofun rfl
theorem alignmentMark (lane : Fin 4) : Statement (.alignmentMark lane) := of_not_request nofun rfl
theorem badSymbol (lane : Fin 4) : Statement (.badSymbol lane) := of_not_request nofun rfl
theorem laneLossOfSignal (lane : Fin 4) : Statement (.laneLossOfSignal lane) := of_not_request nofun rfl
theorem walk : Statement .walk := of_not_request nofun rfl
theorem fireRequest : Statement .fireRequest := of_not_request nofun rfl
theorem fireAnswer : Statement .fireAnswer := of_not_request nofun rfl
theorem captureRecordTake : Statement .captureRecordTake := of_not_request nofun rfl
theorem streamRecordTake : Statement .streamRecordTake := of_not_request nofun rfl
theorem decimationReload : Statement .decimationReload := of_not_request nofun rfl
theorem streamFrameCompletion : Statement .streamFrameCompletion := of_not_request nofun rfl
theorem drainStart : Statement .drainStart := of_not_request nofun rfl
theorem captureFrameCompletion : Statement .captureFrameCompletion := of_not_request nofun rfl
theorem alertRaise (source : AlertSource) : Statement (.alertRaise source) := of_not_request nofun rfl
theorem alertFrameCompletion : Statement .alertFrameCompletion := of_not_request nofun rfl
theorem reAnnounceTimerExpiry : Statement .reAnnounceTimerExpiry := of_not_request nofun rfl
theorem signalDetected : Statement .signalDetected := of_not_request nofun rfl
theorem linkLossOfSignal : Statement .linkLossOfSignal := of_not_request nofun rfl
theorem trainFrame : Statement .trainFrame := of_not_request nofun rfl
theorem requestFrame (tag : Byte) (body : List Byte) : Statement (.requestFrame tag body) := by
  simp [Statement, Instr.wellFormed]
theorem creditFrame (count : Byte) : Statement (.creditFrame count) := of_not_request nofun rfl
theorem badFrame : Statement .badFrame := of_not_request nofun rfl
theorem transmissionCompletion (sourceFirst : Bool) : Statement (.transmissionCompletion sourceFirst) := of_not_request nofun rfl
theorem requestArrival : Statement .requestArrival := of_not_request nofun rfl
theorem replyCompletion : Statement .replyCompletion := of_not_request nofun rfl
theorem linkLossManagement : Statement .linkLossManagement := of_not_request nofun rfl
theorem linkLossDelivery : Statement .linkLossDelivery := of_not_request nofun rfl
theorem linkLossStream : Statement .linkLossStream := of_not_request nofun rfl
theorem linkLossAlert : Statement .linkLossAlert := of_not_request nofun rfl
theorem read : Statement .read := of_not_request nofun rfl
theorem readChannelRuntime : Statement .readChannelRuntime := of_not_request nofun rfl
theorem write : Statement .write := of_not_request nofun rfl
theorem writeControl : Statement .writeControl := of_not_request nofun rfl
theorem writeChannel : Statement .writeChannel := of_not_request nofun rfl
theorem writeLevel : Statement .writeLevel := of_not_request nofun rfl
theorem writeCondition : Statement .writeCondition := of_not_request nofun rfl
theorem writeTrigger : Statement .writeTrigger := of_not_request nofun rfl
theorem writeUnit : Statement .writeUnit := of_not_request nofun rfl
theorem commit : Statement .commit := of_not_request nofun rfl
theorem discardEdits : Statement .discardEdits := of_not_request nofun rfl
theorem arm : Statement .arm := of_not_request nofun rfl
theorem abort : Statement .abort := of_not_request nofun rfl
theorem release : Statement .release := of_not_request nofun rfl
theorem replay : Statement .replay := of_not_request nofun rfl
theorem fire : Statement .fire := of_not_request nofun rfl
theorem alertAck : Statement .alertAck := of_not_request nofun rfl
theorem status : Statement .status := of_not_request nofun rfl
theorem unknownKind : Statement .unknownKind := of_not_request nofun rfl
theorem reset : Statement .reset := of_not_request nofun rfl
theorem softResetDone : Statement .softResetDone := of_not_request nofun rfl
theorem softResetEpochTimer : Statement .softResetEpochTimer := of_not_request nofun rfl
theorem softResetChannelProcessor : Statement .softResetChannelProcessor := of_not_request nofun rfl
theorem softResetConditionEngine : Statement .softResetConditionEngine := of_not_request nofun rfl
theorem softResetCaptureController : Statement .softResetCaptureController := of_not_request nofun rfl
theorem softResetDeliveryEngine : Statement .softResetDeliveryEngine := of_not_request nofun rfl
theorem softResetStreamForwarder : Statement .softResetStreamForwarder := of_not_request nofun rfl
theorem softResetAlertUnit : Statement .softResetAlertUnit := of_not_request nofun rfl

end Sys2Proof.Laws.LengthChecked
end

