-- ==== Sys2Proof/Tests/Slice0.lean ====
section
/-! SUPPORT. The model's own tests: each runs one command on a small state, and its expected values come from the
manual's worked examples and tables, named in each docstring. After them come the witnesses: for every statement of
Certificates/Slice0/Obligations.lean with hypotheses, states and operands that meet them, clause by clause. -/

namespace Sys2Proof.Tests

open Sys2Proof.Machine

/-! ### Helpers -/

/-- The state after a command. -/
def next (i : Instr) (s : State) : State :=
  match exec i s with
  | .next t => t
  | .fault _ => s
  | .refused _ => s

/-- The link UP with a credit. -/
def up (credit : Nat) (s : State) : State :=
  s.setLink { LinkController.cold with state := .up, credit := credit }

/-- A frame of a source on the link. -/
def sending (src : Source) (f : UpFrame) (s : State) : State :=
  s.setLink { s.link with tx := some { frame := f, source := src, void := false } }

/-- A request with tag 7. -/
def req (kind operand index options : Byte) (payload : List Byte) : Request :=
  { tag := 7, kind := kind, operand := operand, index := index, options := options, payload := payload }

/-- The one request waiting. -/
def ask (q : Request) (s : State) : State := s.setMgmt { s.mgmt with requests := [q], unanswered := 1 }

/-- Status and content of the replies waiting. -/
def answers (s : State) : List (Status × ReplyContent) := s.mgmt.replies.map fun r => (r.status, r.content)

/-- An absent channel in every field. -/
def noField : ChannelField := { value := none, crossed := false, delta := none }

/-- A record of absent channels but for the ones given. -/
def record (n : Epoch) (f : List (Fin 16 × ChannelField)) : EpochRecord :=
  { epoch := n, fields := f.foldl (fun t p => Table.put t p.1 p.2) (Vector.replicate 16 noField) }

/-- The record offered in the run in force at reset. -/
def offer (r : EpochRecord) : Offered := { run := 0, record := r }

/-- A present channel. -/
def field (v : Int) (crossed : Bool) (delta : Option Int) : ChannelField :=
  { value := some (BitVec.ofInt 16 v), crossed := crossed, delta := delta }

def enabledAt (lane : Fin 4) (slot : Fin 8) : ChannelEntry :=
  { ChannelEntry.cold with enabled := true, lane := lane, slot := slot }

/-- The table of section 1.6. -/
def table16 : Table ChannelEntry 16 :=
  [((0 : Fin 16), (0 : Fin 4), (0 : Fin 8)), (1, 0, 1), (2, 0, 2), (3, 1, 3)].foldl
    (fun t p => Table.put t p.1 (enabledAt p.2.1 p.2.2)) (Vector.replicate 16 ChannelEntry.cold)

/-- Section 1.6: lanes 0 and 1 LOCKED, the timer RUNNING, epoch `n` next, and `o` open with these slots received. -/
def lanes16 (n : Epoch) (o : Option Epoch) (r0 r1 : SlotSet) (bad : Nat) : State :=
  { State.reset with
    timer := { EpochTimer.cold with
      state := .running, nextEpoch := n, openEpoch := o, participating := if o = none then 0 else 3,
      lastClosed := some 40, periodTimer := some 1000 }
    channels := { ChannelProcessor.cold with table := table16 }
    lanes := #v[{ Lane.cold with state := .locked, received := r0 },
                { Lane.cold with state := .locked, received := r1, badRun := bad }, Lane.cold, Lane.cold]
    mgmt := { ManagementEngine.cold with control := { ControlRecord.cold with lanes := 3 } } }

/-- A unit configuration of one block, in use. -/
def config (mask : ChannelSet) (pre post : Nat) : UnitConfig :=
  { UnitConfig.cold with inUse := true, blockCount := 1, mask := mask, pre := pre, postLength := post }

/-- A slot of channel 0 with a value. -/
def slot (n : Nat) : Slot := { epoch := BitVec.ofNat 32 n, values := [(0, some 1)], mark := false }

/-- Slots of consecutive epochs. -/
def slots (first count : Nat) : List Slot := (List.range count).map fun i => slot (first + i)

/-- Unit 1 with a configuration and a runtime. -/
def unit1 (c : UnitConfig) (u : UnitRuntime) (s : State) : State :=
  s.setCapture { s.capture with configs := Table.put s.capture.configs 1 c, units := Table.put s.capture.units 1 u }

/-- The capture record 42 of section 6.8. -/
def record42 : CaptureRecord :=
  { number := 42, unit := 1, trigger := 2, forced := false, triggerEpoch := 1000, generation := 0, mask := 1,
    preActual := 8, truncated := false, retriggers := 0
    settled := some { postActual := 28, endReason := .complete, gaps := false } }

/-- Unit 1 of section 6.8 in a frozen state. -/
def frozen42 (st : UnitState) (attempt : Option Nat) : UnitRuntime :=
  { UnitRuntime.cleared with
    state := st, startEpoch := some 900, ring := slots 992 37, record := some record42, attempt := attempt }

/-- Section 6.8, unit 1 HELD at the head of the drain queue. -/
def held42 (c : UnitConfig) : State :=
  let s := unit1 c (frozen42 .held none) (up 10 State.reset)
  s.setCapture { s.capture with drainQueue := [1] }

/-- Section 6.8, the drain of unit 1 at a position, its frame in transmission. -/
def drain42 (position : DrainPosition) (frame : CaptureFrame) (done : Nat) (cut : Bool) : Drain :=
  { unit := 1, position := position, mark := .inTransmission, frame := frame, segmentsDone := done, cut := cut }

/-- The configuration of section 6.8: 8 + 1 + 28 slots of one channel, hand-off RETAIN. -/
def config42 : UnitConfig := { config 1 8 28 with handOff := .retain }

def draining42 (d : Drain) (inbox : List LinkReport) : State :=
  let s := unit1 config42 (frozen42 .draining (some 1)) (up 6 State.reset)
  s.setDelivery { s.delivery with drain := some d, inbox := inbox }

def segment2 : CaptureFrame := .segment 42 1 2 (slots 1024 5)

/-- A stream frame. -/
def streamFrame (sequence : BitVec 16) : StreamFrame :=
  { epoch := 490, sequence := sequence, gapCount := 0, values := [(0, none)] }

/-- Section 7.6: channels 0 and 4 forwarded with divisors 2 and 3, their counters at `c0` and `c4`. -/
def stream76 (c0 c4 : Nat) (r : EpochRecord) : State :=
  let e (d : Nat) : ChannelEntry := { ChannelEntry.cold with enabled := true, forward := true, divisor := d }
  { State.reset with
    channels := { ChannelProcessor.cold with
      table := Table.put (Table.put ChannelProcessor.cold.table 0 (e 2)) 4 (e 3) }
    stream := { StreamForwarder.cold with
      counters := Table.put (Table.put StreamForwarder.cold.counters 0 c0) 4 c4
      sequence := 80, records := [offer r] }
    mgmt := { ManagementEngine.cold with control := { ControlRecord.cold with streamEnable := true } } }

/-- Section 9.8: every source but STREAM-GAP enabled. -/
def alerts98 (a : AlertUnit) : State :=
  { State.reset with
    alerts := a
    mgmt := { ManagementEngine.cold with control := { ControlRecord.cold with alerts := 0x5F } } }

/-- The sets of section 9.8, by the bits of Table 12-5. -/
def setOf (l : List AlertSource) : AlertSet := l.foldl (fun b a => b ||| single 7 (AlertSource.bit a)) 0

/-! ### The static check and the table's words -/

/-- Table 12-2: a body of 5 bytes is none of the seven lengths. -/
theorem test_wellFormed_refuses_bad_length :
    Instr.wellFormed (.requestFrame 0 [1, 0, 0, 0, 0]) = false ∧ Instr.wellFormed (.requestFrame 0 []) = false := by
  decide

/-- Table 12-2: the shortest and the longest body. -/
theorem test_wellFormed_accepts_lengths :
    Instr.wellFormed (.requestFrame 0 [1, 0, 0, 0]) = true ∧
    Instr.wellFormed (.requestFrame 0 (List.replicate 20 0)) = true := by decide

/-- No row of the table has bits. -/
theorem test_no_word_spells_a_command : decodeTableWord 8 0 = none := rfl

/-! ### Frames and lane symbols (chapter 12) -/

/-- The two checks of R172 and R176 on the digits 1 to 9, the usual check values of the two codes. -/
theorem test_checks :
    frameCheck [0x31, 0x32, 0x33, 0x34, 0x35, 0x36, 0x37, 0x38, 0x39] = 0x29B1 ∧
    laneCheck [0x31, 0x32, 0x33, 0x34, 0x35, 0x36, 0x37, 0x38, 0x39] = 0xF4 := by decide +kernel

/-- R176: bit 7 of byte 0 marks an alignment mark; tag in bits 6 to 3, slot in bits 2 to 0. -/
theorem test_lane_symbols :
    laneSymbol 1 0x4B 0x12 0x34 (laneCheck [0x4B, 0x12, 0x34]) = .laneWord 1 9 3 0x1234 ∧
    laneSymbol 1 0x80 0 0 (laneCheck [0x80, 0, 0]) = .alignmentMark 1 ∧
    laneSymbol 1 0x80 0 0 (laneCheck [0x80, 0, 0] ^^^ 1) = .badSymbol 1 := by decide +kernel

/-- Table 12-2: the kinds of downstream frames and their body lengths. -/
theorem test_downstream_frames :
    let sent (b : List Byte) := downstreamFrame (b ++ bytes16 (frameCheck b))
    sent [0x02, 5, 0, 4, 0x0D, 0, 0, 0] = .requestFrame 5 [0x0D, 0, 0, 0] ∧
    sent [0x02, 5, 0, 5, 0x0D, 0, 0, 0, 0] = .badFrame ∧ sent [0x01, 9, 0, 4, 1, 2, 3, 4] = .trainFrame ∧
    sent [0x03, 9, 0, 2, 200, 7] = .creditFrame 200 ∧ sent [0x81, 0, 0, 4, 0, 0, 0, 0] = .badFrame ∧
    downstreamFrame [0x02, 5, 0, 4, 0x0D, 0, 0, 0, 0, 0] = .badFrame := by decide +kernel

/-! ### Epochs and lanes (section 1.6) -/

/-- Section 0.7: everything returns to its cold-reset value. -/
theorem test_cold_reset : next .coldReset (lanes16 43 (some 42) 1 8 3) = State.reset := by decide

/-- Event 1 of Table 1-5. -/
theorem test_period_expiry_opens :
    let t := (next .periodExpiry (lanes16 41 none 0 0 0)).timer
    t.openEpoch = some 41 ∧ t.participating = 3 ∧ t.strobe = some 9 ∧ t.nextEpoch = 42 := by decide

/-- Event 10 of Table 1-5: 42 closes STROBE, and 43 opens. -/
theorem test_period_expiry_closes :
    let t := next .periodExpiry (lanes16 43 (some 42) 3 0 0)
    t.timer.openEpoch = some 43 ∧ t.timer.lastClosed = some 42 ∧ t.alerts.raises = [.sampleMissing] ∧
    t.lanes[0].received = 0 ∧ t.conditions.records.map (·.record.epoch) = [42] := by decide

/-- Event 6 of Table 1-5: the last word closes 41 COMPLETE. -/
theorem test_lane_word_completes :
    let t := next (.laneWord 0 9 2 7) (lanes16 42 (some 41) 3 8 0)
    t.timer.openEpoch = none ∧ t.timer.lastClosed = some 41 ∧ t.alerts.raises = [] ∧
    t.lanes[0].wordsTaken = 1 := by decide

/-- Events 5 and 7 of Table 1-5: a duplicate, and a late word. -/
theorem test_lane_word_discarded :
    (next (.laneWord 0 9 1 8) (lanes16 42 (some 41) 3 8 0)).alerts.raises = [.laneFault] ∧
    (next (.laneWord 1 9 3 8) (lanes16 42 none 0 0 0)).alerts.raises = [.sampleLate] ∧
    (next (.laneWord 1 9 3 8) (lanes16 42 none 0 0 0)).lanes[1].lateWords = 1 := by decide

/-- Event 14 of Table 1-6: the fourth bad symbol, and the close COMPLETE it brings. -/
theorem test_fourth_bad_symbol :
    let t := next (.badSymbol 1) (lanes16 44 (some 43) 7 0 3)
    t.lanes[1].state = .seeking ∧ t.lanes[1].badRun = 0 ∧ t.timer.openEpoch = none ∧
    t.timer.lastClosed = some 43 ∧ t.alerts.raises = [.laneFault] := by decide

/-- R11: the eighth good mark locks. -/
theorem test_eighth_mark_locks :
    let s (n : Nat) : State :=
      { State.reset with lanes := Table.put State.reset.lanes 2 { Lane.cold with state := .seeking, goodRun := n } }
    (next (.alignmentMark 2) (s 7)).lanes[2].state = .locked ∧
    (next (.alignmentMark 2) (s 6)).lanes[2].goodRun = 7 := by decide

/-- R13: a loss of signal loses the lock at once. -/
theorem test_lane_loss_of_signal :
    let t := next (.laneLossOfSignal 0) (lanes16 42 (some 41) 3 0 0)
    t.lanes[0].state = .seeking ∧ t.timer.participating = 2 ∧ t.alerts.raises = [.laneFault] := by decide

/-- R2: EPOCH-START opens the next epoch at once; while RUNNING it is refused. -/
theorem test_epoch_start :
    let s := ask (req 5 0 0 0 []) (lanes16 0 none 0 0 0)
    let t := next .epochStart (s.setTimer EpochTimer.cold)
    t.timer.openEpoch = some 0 ∧ t.timer.periodTimer = some 1000 ∧ t.timer.state = .running ∧
    answers t = [(.ok, .nothing)] ∧ answers (next .epochStart s) = [(.wrongState, .nothing)] := by decide

/-- R4: EPOCH-STOP closes the open epoch, and its missing words raise SAMPLE-MISSING. -/
theorem test_epoch_stop :
    let t := next .epochStop (ask (req 6 0 0 0 []) (lanes16 42 (some 41) 3 0 0))
    t.timer.state = .stopped ∧ t.timer.openEpoch = none ∧ t.timer.periodTimer = none ∧
    t.timer.lastClosed = some 41 ∧ t.alerts.raises = [.sampleMissing] ∧ answers t = [(.ok, .nothing)] := by decide

/-! ### Channels (chapter 2) -/

/-- Table 2-2. -/
theorem test_corrected_values :
    ([(Coding.bipolar, 0x03E8#16, -1500, true), (.bipolar, 0x7FBC, 200, false), (.bipolar, 0x8000, 0, true),
      (.unipolar, 0, -5, true), (.unipolar, 0x8000, 250, false), (.unipolar, 0xFFFF, 0, true)].map fun p =>
        (correctedValue { ChannelEntry.cold with
          coding := p.1, offset := BitVec.ofInt 16 p.2.2.1, invert := p.2.2.2 } p.2.1).toInt) =
      [500, 32767, 32767, 32767, 250, -32767] := by decide

/-- Epoch 16 of Table 2-6, after epoch 15. -/
theorem test_channel_settled :
    let e : ChannelEntry :=
      { enabledAt 0 0 with offset := BitVec.ofInt 16 (-100), level := 1000, hysteresis := 50 }
    let r : ChannelRuntime :=
      { previous := some 1000, crossing := .below, cycleCount := 4, lastCrossing := some 12, lastPeriod := none,
        peakMax := some 1100, peakMin := some 800 }
    settleChannel 16 e (some 1300) r =
      ({ value := some 1200, crossed := true, delta := some 200 },
       { previous := some 1200, crossing := .above, cycleCount := 5, lastCrossing := some 16, lastPeriod := some 4,
         peakMax := some 1200, peakMin := some 800 }) := by decide

/-- Table 2-7: READ with the clear option. -/
theorem test_read_channel_runtime_clears :
    let r : ChannelRuntime := { ChannelRuntime.cleared with cycleCount := 5, peakMax := some 1200, peakMin := some 800 }
    let s := ask (req 1 2 5 4 []) State.reset
    let t := next .readChannelRuntime
      (s.setChannels { s.channels with runtime := Table.put s.channels.runtime 5 r })
    answers t = [(.ok, .read .channelRuntime 5 .edit (.channelRuntime r))] ∧
    t.channels.runtime[5] = { r with peakMax := none, peakMin := none } := by decide

/-- Section 2.11, event 2, in the state of section 1.6: once channel 2 is disabled, lane 0 owes nothing, and the
epoch closes COMPLETE within the write. -/
theorem test_write_channel_completes :
    let t := next .writeChannel
      (ask (req 2 1 2 0 ChannelEntry.cold.bytes) (lanes16 42 (some 41) 3 8 0))
    t.timer.openEpoch = none ∧ t.timer.lastClosed = some 41 ∧ t.alerts.raises = [] ∧
    answers t = [(.ok, .wrote .channel 2)] := by decide

/-- R22: a channel of a unit outside IDLE is protected. -/
theorem test_write_channel_protected :
    answers (next .writeChannel (ask (req 2 1 0 0 ChannelEntry.cold.bytes)
      (unit1 (config 1 0 0) { UnitRuntime.cleared with state := .armed } State.reset))) = [(.busy, .nothing)] := by
  decide

/-- R164, R165: table 0Ah is no table, and CHANNEL-RUNTIME is read-only. -/
theorem test_read_write_refused :
    answers (next .read (ask (req 1 0x0A 0 0 []) State.reset)) = [(.badTable, .nothing)] ∧
    answers (next .write (ask (req 2 2 0 0 []) State.reset)) = [(.readOnly, .nothing)] := by decide

/-- Table 11-5: the control record after cold reset. -/
theorem test_read_control :
    answers (next .read (ask (req 1 0 0 0 []) State.reset)) =
      [(.ok, .read .control 0 .edit (.control
        { period := 1000, lanes := 0, alerts := 127, streamEnable := false }))] := by decide

/-- R10: an enabled lane seeks; R166: a period below 10 µs is refused. -/
theorem test_write_control :
    let t := next .writeControl (ask (req 2 0 0 0 [0, 10, 4, 0, 1, 0]) State.reset)
    t.lanes[2].state = .seeking ∧ t.mgmt.control.period = 10 ∧ t.mgmt.control.streamEnable = true ∧
    answers (next .writeControl (ask (req 2 0 0 0 [0, 9, 4, 0, 1, 0]) State.reset)) = [(.badValue, .nothing)] := by
  decide

/-! ### Conditions and triggers (chapters 3 and 4) -/

/-- The list of Table 3-7 and the levels of Table 3-6, with each trigger without a target. -/
def bank37 : Bank :=
  let e (t : Test) (c : Fin 16) (a b : Fin 32) (x y : Action) : ConditionEntry :=
    { inUse := true, test := t, channel := c, levelA := a, levelB := b, onTrue := x, onFalse := y }
  let list : List (Fin 64 × ConditionEntry) :=
    [(0, e .absent 2 0 0 (.fireEnd 7) .next), (1, e .inside 2 2 1 (.skip 2) (.fire 0)),
     (2, e .rise 2 4 0 (.fire 1) .next), (3, e .crossed 5 0 0 (.fire 0) .next),
     (4, e .above 7 3 0 (.fireEnd 2) .next), (5, e .below 7 0 0 (.fire 3) .endWalk)]
  let levels : List (Fin 32 × Value) := [(0, 2000), (1, 500), (2, BitVec.ofInt 16 (-500)), (3, 3000), (4, 100)]
  { Bank.cold with
    levels := levels.foldl (fun t p => Table.put t p.1 p.2) Bank.cold.levels
    list := list.foldl (fun t p => Table.put t p.1 p.2) Bank.cold.list }

def walk37 (r : EpochRecord) : State :=
  { State.reset with conditions := { ConditionEngine.cold with live := bank37, records := [offer r] } }

/-- Table 3-9: the walk of record 200 fires triggers 0, 1 and 3, each once. -/
theorem test_walk :
    let t := (next .walk (walk37 (record 200
      [(2, field 820 false (some 140)), (5, field 0 true none), (7, field 1500 false none)]))).conditions
    t.triggers.toList.map (·.fires) = [1, 1, 0, 1, 0, 0, 0, 0] ∧ t.nextWalk = 201 ∧
    t.triggers[3].lastFire = some 200 ∧ t.records = [] := by decide

/-- Tables 3-10 and 3-11: the walks of records 201 and 202. -/
theorem test_walk_fires :
    walkFires bank37 (record 201
      [(2, field 300 false (some (-520))), (5, field 0 true none), (7, field 3400 false none)]) = [2] ∧
    walkFires bank37 (record 202 [(7, field 3350 false none)]) = [7] := by decide

/-- Section 8.9, event 7: the walk of 701 swaps the pending commit and releases the deferred reply. -/
theorem test_walk_swaps :
    let s : State :=
      { State.reset with
        conditions := { ConditionEngine.cold with
          edit := bank37, commit := .pending, generation := 41, records := [offer (record 701 [])]
          triggers := Table.put ConditionEngine.cold.triggers 4 { TriggerRuntime.cleared with remaining := 5 } }
        mgmt := { ManagementEngine.cold with deferred := some 12, unanswered := 1 } }
    let t := next .walk s
    t.conditions.live.levels = bank37.levels ∧ t.conditions.generation = 42 ∧
    t.conditions.triggers[4].remaining = 0 ∧ t.mgmt.deferred = none ∧ t.mgmt.unanswered = 1 ∧
    t.mgmt.replies = [{ tag := 12, kind := 3, status := .ok, content := .commit 42 701 }] := by decide

/-- R66: a MISSED answer is counted and raises TRIGGER-MISSED. -/
theorem test_fire_answer :
    let t := next .fireAnswer { State.reset with conditions := { ConditionEngine.cold with
      answers := [{ trigger := 2, answer := .missed, waiter := none }] } }
    t.conditions.triggers[2].missed = 1 ∧ t.alerts.raises = [.triggerMissed] ∧ t.conditions.answers = [] := by decide

/-- Section 4.7: the forced fire at 104 ignores and leaves the hold-off, is counted, and goes to unit 1; R67: before
any epoch has closed, it is refused. -/
theorem test_fire :
    let live : Bank :=
      { Bank.cold with triggers := Table.put Bank.cold.triggers 2 { target := some 1, holdOff := 3 } }
    let s : State :=
      { State.reset with conditions := { ConditionEngine.cold with
          live := live, triggers := Table.put ConditionEngine.cold.triggers 2
            { TriggerRuntime.cleared with remaining := 2, fires := 12, lastFire := some 103 } } }
    let t := next .fire (ask (req 0x0B 2 0 0 []) (s.setTimer { EpochTimer.cold with lastClosed := some 104 }))
    t.conditions.triggers[2].fires = 13 ∧ t.conditions.triggers[2].remaining = 2 ∧
    t.capture.fires.map (fun f => (f.unit, f.epoch, f.forced)) = [(1, 104, true)] ∧ answers t = [] ∧
    answers (next .fire (ask (req 0x0B 2 0 0 []) s)) = [(.wrongState, .nothing)] := by decide

/-- R126: while STOPPED, COMMIT swaps at once; while one is pending, it is refused. -/
theorem test_commit :
    let s (c : CommitState) := ask (req 3 0 0 0 [])
      { State.reset with conditions := { ConditionEngine.cold with edit := bank37, commit := c, nextWalk := 6 } }
    answers (next .commit (s .none)) = [(.ok, .commit 1 6)] ∧
    (next .commit (s .none)).conditions.live.levels = bank37.levels ∧
    answers (next .commit (s .pending)) = [(.busy, .nothing)] := by decide

/-- R131. -/
theorem test_discard_edits :
    let t := next .discardEdits (ask (req 4 0 0 0 [])
      { State.reset with conditions := { ConditionEngine.cold with edit := bank37, generation := 5 } })
    t.conditions.edit.levels = Bank.cold.levels ∧ answers t = [(.ok, .generation 5)] := by decide

/-- Section 8.9, events 1 and 5: WRITE LEVEL 3 = 2800 goes to EDIT alone, and is BUSY while a commit is pending. -/
theorem test_write_level :
    let s (c : CommitState) := ask (req 2 3 3 0 [0x0A, 0xF0])
      { State.reset with conditions := { ConditionEngine.cold with commit := c } }
    let t := next .writeLevel (s .none)
    t.conditions.edit.levels[3] = 2800 ∧ t.conditions.live.levels[3] = 0 ∧ answers t = [(.ok, .wrote .level 3)] ∧
    answers (next .writeLevel (s .pending)) = [(.busy, .nothing)] := by decide

/-- Entry 1 of Table 3-7, in the bytes of Table 12-8; a SKIP of distance 0 is refused (R41). -/
theorem test_write_condition :
    let s (k : Byte) := ask (req 2 4 1 0 [1, 2, 2, 2, 1, 1, k, 2, 0, 0]) State.reset
    (next .writeCondition (s 2)).conditions.edit.list[1] = bank37.list[1] ∧
    answers (next .writeCondition (s 0)) = [(.badValue, .nothing)] := by decide

/-- Section 8.9, event 2: TRIGGER 4 to unit 2 with hold-off 20. -/
theorem test_write_trigger :
    let t := next .writeTrigger (ask (req 2 5 4 0 [2, 0, 0, 20]) State.reset)
    t.conditions.edit.triggers[4] = { target := some 2, holdOff := 20 } ∧
    t.conditions.live.triggers[4].target = none := by decide

/-! ### Capture units (chapter 5) -/

/-- Section 5.14: unit 0 takes blocks 0..7; a unit that starts in block 6 overlaps it, one that starts in 8 does
not. -/
theorem test_arm :
    let cfg (first count : Nat) : UnitConfig := { config 1 0 0 with firstBlock := first, blockCount := count }
    let s (c : UnitConfig) :=
      let r := unit1 c UnitRuntime.cleared State.reset
      ask (req 7 1 0 0 []) (r.setCapture { r.capture with
        configs := Table.put r.capture.configs 0 (cfg 0 8)
        units := Table.put r.capture.units 0 { UnitRuntime.cleared with state := .armed, startEpoch := some 0 } })
    answers (next .arm (s (cfg 6 4))) = [(.overlap, .nothing)] ∧
    answers (next .arm (s (cfg 8 8))) = [(.ok, .unit 1)] ∧
    (next .arm (s (cfg 8 8))).capture.units[1].state = .armed := by decide

/-- Section 5.11: unit 3 has slots 50 and 51 and pre length 4; the fire at 52 starts a truncated capture with pre
actual 2. -/
theorem test_fire_request :
    let c : UnitConfig := { config 1 4 3 with retrigger := .extend }
    let u : UnitRuntime := { UnitRuntime.cleared with state := .filling, startEpoch := some 50, ring := slots 50 2 }
    let s := unit1 c u State.reset
    let f : FireRequest :=
      { unit := 1, trigger := 2, epoch := 52, generation := 5, forced := false, waiter := none }
    let t := next .fireRequest (s.setCapture { s.capture with fires := [f], number := 17 })
    t.capture.units[1].state = .post ∧ t.capture.units[1].postEnd = some 55 ∧
    t.capture.units[1].record.map (fun r => (r.number, r.preActual, r.truncated)) = some (17, 2, true) ∧
    t.conditions.answers.map (·.answer) = [.truncated] ∧ t.capture.number = 18 := by decide

/-- Section 5.11: the retrigger at 54 moves the post end epoch from 55 to 57. -/
theorem test_fire_request_extends :
    let c : UnitConfig := { config 1 4 3 with retrigger := .extend }
    let r : CaptureRecord := { record42 with triggerEpoch := 52, preActual := 2, settled := none }
    let u : UnitRuntime :=
      { UnitRuntime.cleared with
        state := .post, startEpoch := some 50, ring := slots 50 5, record := some r, postEnd := some 55 }
    let s := unit1 c u State.reset
    let f : FireRequest :=
      { unit := 1, trigger := 2, epoch := 54, generation := 5, forced := false, waiter := none }
    let t := next .fireRequest (s.setCapture { s.capture with fires := [f] })
    t.capture.units[1].postEnd = some 57 ∧ t.capture.units[1].record.map (·.retriggers) = some 1 ∧
    t.conditions.answers.map (·.answer) = [.retriggered] := by decide

/-- Section 5.11: the ring write of 57 reaches the post end epoch and freezes the unit, which joins the drain
queue. -/
theorem test_capture_record_take :
    let r : CaptureRecord := { record42 with triggerEpoch := 52, preActual := 2, settled := none }
    let u : UnitRuntime :=
      { UnitRuntime.cleared with
        state := .post, startEpoch := some 50, ring := slots 50 7, record := some r, postEnd := some 57 }
    let s := unit1 (config 1 4 3) u State.reset
    let t := next .captureRecordTake
      (s.setCapture { s.capture with records := [offer (record 57 [(0, field 1 false none)])] })
    t.capture.units[1].state = .held ∧ t.capture.drainQueue = [1] ∧ t.capture.nextRecord = 58 ∧
    t.capture.units[1].record.bind (·.settled) =
      some { postActual := 5, endReason := .complete, gaps := false } := by decide

/-- Tables 5-8 and 5-9: the slot of 111 reaches the depth 16; the slot of 209 reaches the guard of 203 + 6. -/
theorem test_window_ends :
    let r (n : Epoch) (p : Nat) : CaptureRecord :=
      { record42 with triggerEpoch := n, preActual := p, settled := none }
    let at_ (c : UnitConfig) (r : CaptureRecord) (n : Nat) (e f : Option Epoch) :=
      (windowTest c r (slot n) { UnitRuntime.cleared with
        state := .post, record := some r, postEnd := e, countFrom := f, crossings := 1 }).record.bind (·.settled)
    at_ (config 0xFFFF 4 8) (r 100 4) 111 (some 114) none =
      some { postActual := 11, endReason := .depthLimit, gaps := false } ∧
    at_ (config 0xFFFF 4 8) (r 100 4) 110 (some 114) none = none ∧
    at_ { config 8 2 2 with postMode := .cycles, guard := 6 } (r 200 2) 209 none (some 203) =
      some { postActual := 9, endReason := .cycleTimeout, gaps := false } := by decide

/-- R94: RELEASE of a DELIVERED unit, ONE-SHOT. R95: REPLAY of it. -/
theorem test_release_replay :
    let s := unit1 config42 (frozen42 .delivered (some 2)) State.reset
    (next .release (ask (req 9 1 0 0 []) s)).capture.units[1] = UnitRuntime.cleared ∧
    (next .replay (ask (req 0x0A 1 0 0 []) s)).capture.units[1] = frozen42 .held (some 2) ∧
    (next .replay (ask (req 0x0A 1 0 0 []) s)).capture.drainQueue = [1] := by decide

/-- R93: an ABORT of a HELD unit takes it from the drain queue; R94: RELEASE of it is refused. -/
theorem test_abort :
    let t := next .abort (ask (req 8 1 0 0 []) ((held42 config42).setLink LinkController.cold))
    t.capture.units[1] = UnitRuntime.cleared ∧ t.capture.drainQueue = [] ∧ answers t = [(.ok, .unit 1)] := by decide

/-- R74, R75: a usable entry is written, one whose slots exceed the depth is refused. -/
theorem test_write_unit :
    let s (c : UnitConfig) := ask (req 2 7 1 0 c.bytes) State.reset
    (next .writeUnit (s (config 1 8 28))).capture.configs[1] = config 1 8 28 ∧
    answers (next .writeUnit (s (config 1 200 56))) = [(.badValue, .nothing)] := by decide

/-! ### Delivery (chapter 6) -/

/-- Event 1 of Table 6-3, with the header started at once. -/
theorem test_drain_start :
    let t := next .drainStart (held42 config42)
    t.capture.drainQueue = [] ∧ t.capture.units[1].state = .draining ∧ t.capture.units[1].attempt = some 1 ∧
    t.link.tx.map (·.frame) = some (.capture (.header record42 1 .epochs)) ∧ t.link.credit = 9 := by decide

/-- Event 4 of Table 6-3: segment 2 carries the last five slots. -/
theorem test_capture_frame_completion :
    let t := next .captureFrameCompletion
      (draining42 (drain42 (.segment 1) (.segment 42 1 1 (slots 1008 16)) 1 false) [.completion false])
    t.delivery.drain.map (fun d => (d.frame, d.segmentsDone)) = some (segment2, 2) ∧ t.link.credit = 5 := by decide

/-- Event 4 of Table 6-5: a cut drain offers END ABORTED with the segments sent. -/
theorem test_capture_frame_completion_cut :
    let t := next .captureFrameCompletion
      (draining42 (drain42 (.segment 1) (.segment 42 1 1 (slots 1008 16)) 1 true) [.completion false])
    t.delivery.drain.map (·.frame) = some (.finish 42 1 2 .aborted) := by decide

/-- R107, R113: an END COMPLETE that completes while only the Capture Controller has taken a soft reset raises
CAPTURE-DELIVERED and ends the drain; a cut segment offers no END. -/
theorem test_capture_frame_completion_out_of_step :
    let s (p : DrainPosition) (cut : Bool) :=
      let d := draining42 (drain42 p segment2 2 cut) [.completion false]
      next .captureFrameCompletion (d.setCapture { CaptureController.cold with resetsTaken := 1 })
    (∀ cut ∈ [false, true], (s (.finish .complete) cut).alerts.raises = [.captureDelivered] ∧
      (s (.finish .complete) cut).delivery.drain = none) ∧
    (s (.segment 2) true).delivery.drain = some (drain42 (.segment 2) segment2 3 true) ∧
    (s (.segment 2) true).alerts.raises = [] ∧ (s (.finish .complete) false).capture.units[1] = UnitRuntime.cleared := by
  decide

/-- Event 6 of Table 6-3: the link loss puts unit 1 back at the head of the drain queue. -/
theorem test_link_loss_delivery :
    let t := next .linkLossDelivery (draining42 (drain42 (.segment 2) segment2 2 false) [.linkLoss])
    t.capture.drainQueue = [1] ∧ t.capture.units[1] = frozen42 .held (some 1) ∧ t.delivery.drain = none := by decide

/-! ### The sample stream (chapter 7) -/

/-- Record 305 of Table 7-3: both channels are due. -/
theorem test_stream_record_take :
    let r := record 305 [(0, field 5 false none), (4, field 6 false none)]
    let t := (next .streamRecordTake (stream76 1 1 r)).stream
    t.counters[0] = 2 ∧ t.counters[4] = 3 ∧ t.sequence = 81 ∧
    t.queue = [{ epoch := 305, sequence := 80, gapCount := 0, values := [(0, some 5), (4, some 6)] }] := by decide

/-- Record 300 of Table 7-3: no channel is due. -/
theorem test_stream_record_not_due :
    let t := (next .streamRecordTake (stream76 2 3 (record 300 []))).stream
    t.counters[0] = 1 ∧ t.counters[4] = 2 ∧ t.queue = [] ∧ t.sequence = 80 := by decide

/-- R116: the reload takes the divisor written. -/
theorem test_decimation_reload :
    let s := stream76 1 1 (record 300 [])
    (next .decimationReload (s.setStream { s.stream with
      reloads := [{ channel := 4, divisor := 256, replaced := ChannelEntry.cold.streamView, before := 0 }]
      })).stream.counters[4] = 256 := by decide

/-- R115, R116: between the WRITE that disables channel 4 and its reload, a record built before the write still
includes channel 4, and one built after it does not. -/
theorem test_stream_record_before_reload :
    let r := record 305 []
    let write (s : State) :=
      next .writeChannel (ask (req 2 1 4 0 { ChannelEntry.cold with divisor := 9 }.bytes) s)
    let taken (s : State) := (next .streamRecordTake s).stream
    let before := taken (write (stream76 1 1 r))
    let none' := write ((stream76 1 1 r).setStream { (stream76 1 1 r).stream with records := [] })
    let after := taken (none'.setStream { none'.stream with records := [offer r] })
    before.queue.map (·.values.map (·.1)) = [[0, 4]] ∧ before.counters[4] = 3 ∧
    after.queue.map (·.values.map (·.1)) = [[0]] ∧ after.counters[4] = 1 := by decide

/-- Event 6 of Table 7-4: the completion removes the head. -/
theorem test_stream_frame_completion :
    let t := (next .streamFrameCompletion { State.reset with stream := { StreamForwarder.cold with
      queue := [streamFrame 705, streamFrame 706], headMark := .inTransmission, sequence := 707
      inbox := [.completion false] } }).stream
    t.queue = [streamFrame 706] ∧ t.headMark = .offered := by decide

/-- Event 8 of Table 7-4: a link loss discards the queue and counts its frames. -/
theorem test_link_loss_stream :
    let t := (next .linkLossStream { State.reset with stream := { StreamForwarder.cold with
      queue := [streamFrame 706, streamFrame 707], sequence := 708, inbox := [.linkLoss] } }).stream
    t.queue = [] ∧ t.gapCount = 2 ∧ t.sequence = 708 := by decide

/-! ### Alerts (section 9.8) -/

/-- Table 12-5. -/
theorem test_alert_source_bits :
    ([.captureDelivered, .triggerMissed, .sampleLate, .sampleMissing, .laneFault, .streamGap, .linkProtocol].map
      fun a => setOf [a]) = [0x01, 0x02, 0x04, 0x08, 0x10, 0x20, 0x40] := by decide

/-- Events 1 and 5 of Table 9-3. -/
theorem test_alert_raise :
    let s (a : AlertUnit) := next (.alertRaise .laneFault) (alerts98 { a with sequence := 17, raises := [.laneFault] })
    (s AlertUnit.cold).alerts.offer = .newAlert .offered ∧
    (s AlertUnit.cold).alerts.pending = setOf [.laneFault] ∧
    (s { AlertUnit.cold with
      pending := setOf [.laneFault, .sampleLate], sent := setOf [.laneFault, .sampleLate]
      offer := .newAlert .inTransmission }).alerts.reRaised = setOf [.laneFault] := by decide

/-- Event 6 of Table 9-3. -/
theorem test_alert_frame_completion :
    let t := (next .alertFrameCompletion (alerts98 { AlertUnit.cold with
      pending := setOf [.laneFault, .sampleLate, .streamGap], sent := setOf [.laneFault, .sampleLate]
      reRaised := setOf [.laneFault], offer := .newAlert .inTransmission, sequence := 17
      inbox := [.completion false] })).alerts
    t.pending = setOf [.laneFault, .streamGap] ∧ t.reported = setOf [.laneFault, .sampleLate] ∧
    t.state = .outstanding ∧ t.outstanding = some 17 ∧ t.sequence = 18 ∧ t.offer = .none ∧
    t.timerRunning = true := by decide

/-- An alert outstanding as after event 9 of Table 9-3. -/
def outstanding17 : AlertUnit :=
  { AlertUnit.cold with
    pending := setOf [.laneFault, .streamGap, .triggerMissed], reported := setOf [.laneFault, .sampleLate]
    state := .outstanding, outstanding := some 17, sequence := 18, timerRunning := true, repeatCount := 1 }

/-- Event 8 of Table 9-3. -/
theorem test_re_announce_timer_expiry :
    let t := (next .reAnnounceTimerExpiry (alerts98 { outstanding17 with repeatCount := 0 })).alerts
    t.offer = .repeatAlert .offered ∧ t.repeatCount = 1 ∧ t.timerRunning = false := by decide

/-- R142: an ALERT-ACK whose loss the Alert Unit took first, event 11 of Table 9-3 and then UP again, is not executed;
with the loss still before both blocks it is. -/
theorem test_alert_ack_after_loss :
    let asked (a : AlertUnit) : State := ask (req 0x0C 17 0 0 []) (alerts98 a)
    let told (s : State) : State := s.setMgmt { s.mgmt with inbox := [.linkLoss] }
    let lost := next .linkLossAlert (told (asked { outstanding17 with inbox := [.linkLoss] }))
    (next .alertAck lost) = lost ∧ lost.alerts.state = .quiet ∧
    answers (next .alertAck (told (asked { outstanding17 with inbox := [.linkLoss] }))) =
      [(.ok, .acknowledged 17)] := by decide

/-- Event 10 of Table 9-3: 16 is stale; acknowledging 17 makes the unit QUIET, and offers the next alert. -/
theorem test_alert_ack :
    let s (n : Byte) := next .alertAck (ask (req 0x0C n 0 0 []) (alerts98 outstanding17))
    answers (s 16) = [(.stale, .nothing)] ∧ answers (s 17) = [(.ok, .acknowledged 17)] ∧
    (s 17).alerts.state = .quiet ∧ (s 17).alerts.reported = 0 ∧ (s 17).alerts.offer = .newAlert .offered := by decide

/-- Event 11 of Table 9-3. -/
theorem test_link_loss_alert :
    let t := (next .linkLossAlert (alerts98 { outstanding17 with inbox := [.linkLoss] })).alerts
    t.pending = setOf [.laneFault, .sampleLate, .streamGap, .triggerMissed] ∧ t.reported = 0 ∧ t.state = .quiet ∧
    t.sequence = 18 ∧ t.offer = .newAlert .offered ∧ t.repeatCount = 0 := by decide

/-! ### The link (section 10.7) -/

def training (run : Nat) : State :=
  sending .training (.train 0) (State.reset.setLink { LinkController.cold with state := .training, trainRun := run })

/-- Event 1 of Table 10-4. -/
theorem test_signal_detected :
    let t := (next .signalDetected State.reset).link
    t.state = .training ∧ t.tx = some { frame := .train 0, source := .training, void := false } ∧ t.credit = 0 := by
  decide

/-- Event 6 of Table 10-4: UP at the third. -/
theorem test_train_frame :
    (next .trainFrame (training 2)).link.state = .up ∧ (next .trainFrame (training 2)).link.tx.isSome = true ∧
    (next .trainFrame (training 0)).link.trainRun = 1 := by decide

/-- Event 5 of Table 10-4; R150: the sixteenth bad frame in UP takes the link DOWN. -/
theorem test_bad_frame :
    let s : State := State.reset.setLink { LinkController.cold with state := .up, badRun := 15, credit := 3 }
    (next .badFrame (training 2)).link.trainRun = 0 ∧ (next .badFrame (training 2)).alerts.raises = [] ∧
    (next .badFrame s).link = LinkController.cold ∧ (next .badFrame s).alerts.raises = [.linkProtocol] ∧
    (next .badFrame s).mgmt.inbox = [.linkLoss] := by decide

/-- Event 14 of Table 10-5. -/
theorem test_credit_frame :
    let t := next (.creditFrame 10) (up 249 State.reset)
    t.link.credit = 255 ∧ t.alerts.raises = [.linkProtocol] := by decide

/-- R152, R149: with the link UP again and a link loss still to be taken, the first grant starts a standing alert or
segment (log entry 17); not the END of a cut drain (R111) and not a stream frame (R121). -/
theorem test_credit_frame_after_loss :
    let start (d : Drain) (waits : List LinkReport) :=
      let s := draining42 { d with mark := .offered } waits
      (next (.creditFrame 1) (s.setLink { s.link with credit := 0 })).link
    let cutEnd := drain42 (.finish .aborted) (.finish 42 1 2 .aborted) 2 true
    let alert := next (.creditFrame 1) ((up 0 State.reset).setAlerts
      { AlertUnit.cold with pending := 1, offer := .newAlert .offered, inbox := [.linkLoss] })
    let first (waits : List LinkReport) :=
      let s := up 0 State.reset
      (next (.creditFrame 1) (s.setStream { s.stream with queue := [streamFrame 0], inbox := waits })).link
    (start (drain42 (.segment 2) segment2 2 true) [.linkLoss]).tx.map (·.frame) = some (.capture segment2) ∧
    (start cutEnd [.linkLoss]).tx = none ∧ (start cutEnd []).tx.isSome = true ∧
    alert.alerts.offer = .newAlert .inTransmission ∧ alert.link.credit = 0 ∧
    (first [.linkLoss]).tx = none ∧ (first []).tx.map (·.frame) = some (.stream (streamFrame 0)) := by decide

/-- R146: entering DOWN tells the four blocks. -/
theorem test_link_loss_of_signal :
    let t := next .linkLossOfSignal (up 249 State.reset)
    t.link = LinkController.cold ∧ t.mgmt.inbox = [.linkLoss] ∧ t.delivery.inbox = [.linkLoss] ∧
    t.stream.inbox = [.linkLoss] ∧ t.alerts.inbox = [.linkLoss] := by decide

/-- Table 12-3: the bytes of a REQUEST, here READ LEVEL 3 of the LIVE bank. -/
theorem test_request_frame :
    (next (.requestFrame 9 [1, 3, 3, 1]) (up 0 State.reset)).mgmt.inbox =
      [.request { tag := 9, kind := 1, operand := 3, index := 3, options := 1, payload := [] }] ∧
    (next (.requestFrame 9 [1, 3, 3, 1, 0]) (up 0 State.reset)).alerts.raises = [.linkProtocol] := by decide

/-- Event 3 of Table 10-4, and event 11 of Table 10-5: the reply outranks the rest. -/
theorem test_transmission_completion :
    let r : Reply := { tag := 7, kind := 0x0D, status := .ok, content := .nothing }
    let s := sending .alert (.alert { sequence := 0, repeatCount := 0, sources := 1 }) (up 1 State.reset)
    let t := next (.transmissionCompletion false) (s.setMgmt { s.mgmt with replies := [r] })
    (next (.transmissionCompletion false) (training 1)).link.tx =
      some { frame := .train 1, source := .training, void := false } ∧
    t.link.tx.map (·.frame) = some (.reply r) ∧ t.link.credit = 0 ∧ t.alerts.inbox = [.completion false] := by decide

/-! ### Management requests (section 11.9) -/

/-- Events 1 and 7 of Table 11-7: the ninth request is discarded. -/
theorem test_request_arrival :
    let q := req 1 9 0 0 []
    let s (n : Nat) := next .requestArrival
      (State.reset.setMgmt { ManagementEngine.cold with inbox := [.request q], unanswered := n })
    (s 3).mgmt.requests = [q] ∧ (s 3).mgmt.unanswered = 4 ∧ (s 8).mgmt.requests = [] ∧
    (s 8).alerts.raises = [.linkProtocol] := by decide

/-- Event 10 of Table 11-7: U falls with the completion of a reply; event 15: one that is void leaves it. -/
theorem test_reply_completion :
    let r : Reply := { tag := 1, kind := 1, status := .ok, content := .nothing }
    let s (void : Bool) (l : List Reply) := next .replyCompletion (State.reset.setMgmt
      { ManagementEngine.cold with inbox := [.completion void], inTransmission := l, unanswered := 8 })
    (s false [r]).mgmt.unanswered = 7 ∧ (s true []).mgmt.unanswered = 8 := by decide

/-- R170: a link loss voids every request and reply; Table 8-5: the commit stays pending. -/
theorem test_link_loss_management :
    let s : State := ask (req 1 0 0 0 []) State.reset
    let t := next .linkLossManagement { s with
      mgmt := { s.mgmt with inbox := [.linkLoss], deferred := some 12, unanswered := 2 }
      conditions := { ConditionEngine.cold with commit := .pending } }
    t.mgmt = ManagementEngine.cold ∧ t.conditions.commit = .pending := by decide

/-- R167: the summary after cold reset, with the STATUS itself as the one unanswered request; the link state is UP in
every reply, byte 18 of Table 12-6. -/
theorem test_status :
    answers (next .status (ask (req 0x0D 0 0 0 []) State.reset)) = [(.ok, .status
      { timer := .stopped, lastClosed := none, units := Vector.replicate 4 .idle, drainQueue := [], commit := .none
        generation := 0, link := .up, credit := 0, alert := .quiet, alertSequence := 0, outstanding := none
        otherUnanswered := 0 })] := by decide

/-- R160: kinds 00h and 0Fh are unknown. -/
theorem test_unknown_kind :
    answers (next .unknownKind (ask (req 0 0 0 0 []) State.reset)) = [(.unknownKind, .nothing)] ∧
    answers (next .unknownKind (ask (req 0x0F 0 0 0 []) State.reset)) = [(.unknownKind, .nothing)] := by decide

/-- Event 13 of Table 11-7: one of three unanswered requests is the RESET itself. -/
theorem test_reset :
    let s : State := State.reset.setMgmt { ManagementEngine.cold with
      requests := [req 0x0E 0 0 0 [], req 5 0 0 0 []], deferred := some 2, unanswered := 3 }
    let t := (next .reset s).mgmt
    t.exec = .awaitReset 2 ∧ t.requests = [req 0x0E 0 0 0 []] ∧ t.unanswered = 1 ∧ t.deferred = none := by decide

/-- A RESET handed over and taken by no block yet. -/
def resetting (s : State) : State :=
  s.setMgmt { s.mgmt with
    requests := [req 0x0E 0 0 0 []], unanswered := 1, exec := .awaitReset 6, resetsIssued := 1 }

/-- Event 14 of Table 11-7: R7 with void count 6, once every block has taken the soft reset. -/
theorem test_soft_reset_done :
    let s := resetting { State.reset with
      timer := { EpochTimer.cold with resetsTaken := 1 }
      channels := { ChannelProcessor.cold with resetsTaken := 1 }
      conditions := { ConditionEngine.cold with resetsTaken := 1 }
      capture := { CaptureController.cold with resetsTaken := 1 }
      delivery := { DeliveryEngine.cold with resetsTaken := 1 }
      stream := { StreamForwarder.cold with resetsTaken := 1 }
      alerts := { AlertUnit.cold with resetsTaken := 1 } }
    answers (next .softResetDone s) = [(.ok, .voids 6)] ∧ (next .softResetDone s).mgmt.exec = .idle ∧
    next .softResetDone (resetting State.reset) = resetting State.reset := by decide

/-- R18: the open epoch is discarded without a record; the lanes stay LOCKED and keep their runs. -/
theorem test_soft_reset_epoch_timer :
    let t := next .softResetEpochTimer (resetting (lanes16 42 (some 41) 3 8 2))
    t.timer = { EpochTimer.cold with resetsTaken := 1 } ∧ t.lanes[1].state = .locked ∧ t.lanes[1].badRun = 2 ∧
    t.lanes[1].received = 0 ∧ t.conditions.records = [] := by decide

/-- R124: a commit pending once the Condition Engine has taken the reset does not outlast the stop. -/
theorem test_soft_reset_epoch_timer_cancels :
    let s := resetting (lanes16 42 (some 41) 3 8 2)
    let t := next .softResetEpochTimer { s with
      conditions := { ConditionEngine.cold with commit := .pending, resetsTaken := 1 }
      mgmt := { s.mgmt with deferred := some 12, unanswered := 2 } }
    t.timer.state = .stopped ∧ t.conditions.commit = .none ∧ t.conditions.generation = 0 ∧ t.mgmt.deferred = none ∧
    t.mgmt.unanswered = 1 := by decide

/-- R35: the runtimes are cleared, and the entries kept. -/
theorem test_soft_reset_channel_processor :
    let s := resetting (lanes16 42 (some 41) 3 8 2)
    let t := (next .softResetChannelProcessor (s.setChannels { s.channels with
      runtime := Vector.replicate 16 { ChannelRuntime.cleared with cycleCount := 9 } })).channels
    t.table = table16 ∧ t.runtime = ChannelProcessor.cold.runtime := by decide

/-- Table 8-6: the commit is cancelled, the edits and the generation stay. -/
theorem test_soft_reset_condition_engine :
    let t := (next .softResetConditionEngine (resetting { State.reset with conditions := { ConditionEngine.cold with
      edit := bank37, generation := 41, commit := .pending, nextWalk := 701 } })).conditions
    t.commit = .none ∧ t.generation = 41 ∧ t.edit = bank37 ∧ t.live = Bank.cold ∧ t.nextWalk = 0 := by decide

/-- R96: every unit becomes IDLE, its configuration kept. -/
theorem test_soft_reset_capture_controller :
    let t := (next .softResetCaptureController (resetting (held42 config42))).capture
    t.units = CaptureController.cold.units ∧ t.drainQueue = [] ∧ t.configs[1] = config42 := by decide

/-- R113. -/
theorem test_soft_reset_delivery_engine :
    (next .softResetDeliveryEngine (resetting (draining42 (drain42 (.segment 2) segment2 2 false) []))).delivery =
      { DeliveryEngine.cold with resetsTaken := 1 } := by decide

/-- R122: queue, sequence and gap count are cleared, each counter takes its channel's divisor. -/
theorem test_soft_reset_stream_forwarder :
    let t := (next .softResetStreamForwarder (resetting (stream76 1 1 (record 300 [])))).stream
    t = { StreamForwarder.cold with
      resetsTaken := 1, counters := Table.put (Table.put StreamForwarder.cold.counters 0 2) 4 3 } := by decide

/-- R143. -/
theorem test_soft_reset_alert_unit :
    (next .softResetAlertUnit (resetting (alerts98 outstanding17))).alerts =
      { AlertUnit.cold with resetsTaken := 1 } := by decide

/-! ### Witnesses: the hypotheses of the statements -/

/-- The request of these bytes stands alone at the head, and this row executes it. -/
abbrev Asked (row : RequestRow) (kind operand index options : Byte) (payload : List Byte) (s : State) : Prop :=
  Executes row (req kind operand index options payload) [] (ask (req kind operand index options payload) s)

theorem witness_StepRunsFrontCommand :
    (State.reset.setPending [.badFrame, .walk]).pending = [.badFrame, .walk] ∧ State.reset.pending = [] := by decide

/-- Every premise holds at reset; the second part has records of another run. -/
theorem witness_EventsThatCannotOccur :
    let s := State.reset
    (∀ row q rest, ¬Executes row q rest s) ∧ s.timer.periodTimer = none ∧ s.conditions.records = [] ∧
    s.capture.records = [] ∧ s.stream.records = [] ∧ s.capture.fires = [] ∧ s.conditions.answers = [] ∧
    s.stream.reloads = [] ∧ s.link.state ≠ .up ∧ (∀ a, a ∉ s.alerts.raises) ∧ s.alerts.timerRunning = false ∧
    s.link.tx = none ∧ s.mgmt.inbox = [] ∧ s.delivery.inbox = [] ∧ s.stream.inbox = [] ∧ s.alerts.inbox = [] ∧
    s.mgmt.exec = .idle ∧ s.mgmt.resetsIssued = 0 := by
  refine ⟨?_, rfl, rfl, rfl, rfl, rfl, rfl, rfl, nofun, ?_, rfl, rfl, rfl, rfl, rfl, rfl, rfl, rfl⟩
  · rintro row q rest ⟨-, h, -⟩; cases h
  · nofun

theorem witness_EventsThatCannotOccur_otherRun :
    let s := State.reset.setConditions { ConditionEngine.cold with records := [{ run := 1, record := record 0 [] }] }
    (∀ o rest, s.conditions.records = o :: rest → o.run ≠ s.conditions.resetsTaken) := by
  intro s o rest h; cases h; decide

/-- DRAIN_START with a link loss still to be taken, and with the blocks out of step, both in the link's UP; a report
that is no completion and no link loss. -/
theorem witness_EventsThatCannotOccur_drain :
    let s := held42 config42
    LinkReport.linkLoss ∈ (s.setDelivery { s.delivery with inbox := [.completion false, .linkLoss] }).delivery.inbox ∧
    (s.setDelivery { s.delivery with resetsTaken := 1 }).delivery.resetsTaken ≠ s.capture.resetsTaken ∧
    (∀ v rest, [LinkReport.linkLoss] ≠ .completion v :: rest) ∧
    (∀ rest, [LinkReport.completion false] ≠ .linkLoss :: rest) := by
  refine ⟨by decide, by decide, ?_, ?_⟩ <;> nofun

theorem witness_OpeningAndCloseOfAnEpoch :
    (lanes16 41 none 0 0 0).timer.openEpoch = none ∧ (lanes16 42 (some 41) 3 0 0).timer.openEpoch = some 41 ∧
    missingWord (lanes16 42 (some 41) 3 0 0) = true ∧ missingWord (lanes16 42 (some 41) 7 8 0) = false := by decide

theorem witness_StartStopAndStrobe :
    Asked .epochStart 5 0 0 0 [] State.reset ∧ State.reset.timer.state = .stopped ∧
    Asked .epochStart 5 0 0 0 [] (lanes16 42 (some 41) 3 0 0) ∧ Asked .epochStop 6 0 0 0 [] State.reset ∧
    Asked .epochStop 6 0 0 0 [] (lanes16 42 (some 41) 3 0 0) ∧ (lanes16 42 (some 41) 3 0 0).timer.state = .running ∧
    (lanes16 42 (some 41) 3 0 0).timer.periodTimer = some 1000 := by decide

/-- A commit pending. -/
def committing (s : State) : State := s.setConditions { s.conditions with commit := .pending }

theorem witness_SwapOfAPendingCommit :
    State.reset.conditions.commit = .none ∧ (committing State.reset).conditions.commit = .pending := by decide

/-- Clause by clause: a lane not LOCKED; late with no epoch open, and late by its tag; a slot nobody takes; a
duplicate; an accepted word. -/
theorem witness_LaneWordJudged :
    let s := lanes16 42 (some 41) 3 0 0
    let expected (l : Fin 4) (k : Fin 8) := ∃ c : Fin 16, s.channels.table[c].enabled = true ∧
      s.channels.table[c].lane = l ∧ s.channels.table[c].slot = k
    s.lanes[2].state ≠ .locked ∧ s.lanes[0].state = .locked ∧
    (∀ n, (lanes16 41 none 0 0 0).timer.openEpoch = some n → (9 : BitVec 4) ≠ n.setWidth 4) ∧
    (∀ n, s.timer.openEpoch = some n → (8 : BitVec 4) ≠ n.setWidth 4) ∧
    ¬(∀ n, s.timer.openEpoch = some n → (9 : BitVec 4) ≠ n.setWidth 4) ∧ s.timer.openEpoch = some 41 ∧
    (9 : BitVec 4) = (41 : Epoch).setWidth 4 ∧ ¬expected 0 3 ∧ expected 0 1 ∧ has s.lanes[0].received 1 = true ∧
    expected 0 2 ∧ has s.lanes[0].received 2 = false := by
  refine ⟨by decide, by decide, nofun, ?_, ?_, by decide, by decide, by decide, by decide, by decide, by decide,
    by decide⟩
  · intro n h; cases h; decide
  · intro h; exact absurd rfl (h 41 rfl)

theorem witness_CodedValue :
    (-32768 : Int) ≤ -32768 ∧ (-32768 : Int) ≤ 32767 ∧ codedValue .bipolar 0x8000 = -32768 ∧
    codedValue .unipolar 0xFFFF = 32767 := by decide

theorem witness_ChannelSettled : ChannelEntry.cold.enabled = false ∧ (enabledAt 0 0).enabled = true := by decide

/-- The banked tables at the boundaries of index and bank, CHANNEL-RUNTIME with and without the clear option, and the
operands a WRITE refuses. -/
theorem witness_ReadsAndRefusedWrites :
    (∀ p ∈ [((3 : Byte), (31 : Byte), (0 : Byte)), (3, 31, 1), (3, 31, 2), (3, 32, 0), (4, 63, 0), (4, 63, 1),
        (4, 63, 3), (4, 64, 0), (5, 7, 0), (5, 7, 1), (5, 7, 2), (5, 8, 0)],
      Asked .read 1 p.1 p.2.1 p.2.2 [] State.reset) ∧
    (∀ p ∈ [((15 : Byte), (4 : Byte)), (15, 0), (16, 4)], Asked .readChannelRuntime 1 2 p.1 p.2 [] State.reset) ∧
    (∀ o ∈ [(2 : Byte), 6, 8, 9, 10, 255], Asked .write 2 o 0 0 [] State.reset) := by
  refine ⟨?_, ?_, ?_⟩ <;> intro p hp <;> fin_cases hp <;> decide

/-- The other tables at the boundaries of their index, and the numbers that name no table. -/
theorem witness_ReadsAndRefusedWrites_unbanked :
    ∀ p ∈ [((10 : Byte), (0 : Byte)), (255, 0), (0, 0), (0, 1), (1, 15), (1, 16), (6, 7), (6, 8), (7, 3), (7, 4),
        (8, 3), (8, 4), (9, 3), (9, 4)],
      Asked .read 1 p.1 p.2 0 [] State.reset := by
  intro p hp; fin_cases hp <;> decide

theorem witness_WriteControl :
    (∀ p ∈ [((1 : Byte), ([] : List Byte)), (0, [0, 10, 0, 0, 0]), (0, [0, 9, 0, 0, 0, 0]), (0, [0, 10, 0, 0, 0, 0]),
        (0, [0x03, 0xE8, 0, 0, 0, 0])],
      Asked .writeControl 2 0 p.1 0 p.2 (lanes16 42 (some 41) 3 0 0)) ∧
    (lanes16 42 (some 41) 3 0 0).timer.state = .running ∧
    (lanes16 42 (some 41) 3 0 0).mgmt.control.period = ((0x03 : Byte) ++ (0xE8 : Byte) : BitVec 16) ∧
    Asked .writeControl 2 0 0 0 [0, 10, 0, 0, 0, 0] State.reset ∧ State.reset.timer.state = .stopped := by decide

/-- Unit 1 ARMED with channel 0 in its mask: channel 0 is protected, channel 15 is not. Disabling channel 3 changes
the expected set of lane 1. -/
theorem witness_WriteChannel :
    let armed := unit1 (config 1 0 0) { UnitRuntime.cleared with state := .armed, startEpoch := some 0 } State.reset
    let s := lanes16 42 (some 41) 3 0 0
    Asked .writeChannel 2 1 16 0 [] State.reset ∧ Asked .writeChannel 2 1 15 0 [] State.reset ∧
    channelOf [] = none ∧ channelOf ChannelEntry.cold.bytes = some ChannelEntry.cold ∧
    (∀ i ∈ [(0 : Byte), 15], Asked .writeChannel 2 1 i 0 ChannelEntry.cold.bytes armed) ∧
    (armed.capture.units[1].state ≠ .idle ∧ has armed.capture.configs[1].mask 0 = true) ∧
    (∀ u : Fin 4, has armed.capture.configs[u].mask 15 = false ∧ armed.capture.configs[u].postMode ≠ .cycles) ∧
    Asked .writeChannel 2 1 3 0 ChannelEntry.cold.bytes s ∧ has s.timer.participating 1 = true ∧
    expectedSet s.channels.table 1 ≠ expectedSet (Table.put s.channels.table 3 ChannelEntry.cold) 1 := by decide

theorem witness_WriteOfBankedTablesAndUnit :
    (∀ s ∈ [State.reset, committing State.reset],
      (∀ p ∈ [((32 : Byte), ([] : List Byte)), (31, []), (31, [0, 1])], Asked .writeLevel 2 3 p.1 0 p.2 s) ∧
      (∀ p ∈ [((64 : Byte), ([] : List Byte)), (63, []), (63, ConditionEntry.cold.bytes)],
        Asked .writeCondition 2 4 p.1 0 p.2 s) ∧
      (∀ p ∈ [((8 : Byte), ([] : List Byte)), (7, []), (7, TriggerEntry.cold.bytes)],
        Asked .writeTrigger 2 5 p.1 0 p.2 s)) ∧
    levelOf [] = none ∧ levelOf [0, 1] = some 1 ∧ conditionOf [] = none ∧
    conditionOf ConditionEntry.cold.bytes = some ConditionEntry.cold ∧ triggerOf [] = none ∧
    triggerOf TriggerEntry.cold.bytes = some TriggerEntry.cold ∧
    (∀ s ∈ [State.reset, held42 config42],
      ∀ p ∈ [((4 : Byte), ([] : List Byte)), (1, []), (1, UnitConfig.cold.bytes)], Asked .writeUnit 2 7 p.1 0 p.2 s) ∧
    unitOf [] = none ∧ unitOf UnitConfig.cold.bytes = some UnitConfig.cold ∧
    State.reset.capture.units[1].state = .idle ∧ (held42 config42).capture.units[1].state ≠ .idle := by decide

theorem witness_LevelTests :
    let levels : Table Value 32 :=
      Table.put (Table.put (Table.put Bank.cold.levels 1 0x7FFF) 2 0x8000) 3 (BitVec.ofInt 16 (-5))
    (record 0 []).fields[0].value = none ∧ (record 0 [(0, field 7 false none)]).fields[0].value = some 7 ∧
    levels[1].toInt = 32767 ∧ levels[2].toInt = -32768 ∧ levels[3].toInt < levels[0].toInt := by decide

theorem witness_WalkByActions :
    ConditionEntry.cold.inUse = false ∧ (bank37.list[0]).inUse = true := by decide

theorem witness_WalkFiresEachTriggerOnce : walkFires bank37 (record 202 [(7, field 3350 false none)]) = [7] := by
  decide

theorem witness_WalkFireHandled :
    let s (r : Nat) (u : Option (Fin 4)) := State.reset.setConditions { ConditionEngine.cold with
      triggers := Table.put ConditionEngine.cold.triggers 7 { TriggerRuntime.cleared with remaining := r }
      live := { Bank.cold with triggers := Table.put Bank.cold.triggers 7 { target := u, holdOff := 3 } } }
    (s 1 none).conditions.triggers[7].remaining ≠ 0 ∧ (s 0 none).conditions.triggers[7].remaining = 0 ∧
    (s 0 none).conditions.live.triggers[7].target = none ∧
    (s 0 (some 3)).conditions.live.triggers[7].target = some 3 := by decide

theorem witness_WalkOfARecord :
    (walk37 (record 200 [])).conditions.records = [offer (record 200 [])] ∧
    (offer (record 200 [])).run = (walk37 (record 200 [])).conditions.resetsTaken := by decide

/-- An answer nobody waits for, and one that the FIRE request at the head waits for. -/
theorem witness_AnswerTaken :
    let s (e : ExecState) : State := ask (req 0x0B 2 0 0 []) { State.reset with
      conditions := { ConditionEngine.cold with answers := [{ trigger := 2, answer := .missed, waiter := some 0 }] }
      mgmt := { ManagementEngine.cold with exec := e } }
    (s .idle).conditions.answers = [{ trigger := 2, answer := .missed, waiter := some 0 }] ∧
    (∀ w t e, (s .idle).mgmt.exec = .awaitAnswer w t e → some 0 ≠ some w) ∧
    (s (.awaitAnswer 0 2 104)).mgmt.exec = .awaitAnswer 0 2 104 ∧
    (s (.awaitAnswer 0 2 104)).mgmt.requests = [req 0x0B 2 0 0 []] :=
  ⟨by decide, nofun, by decide, by decide⟩

theorem witness_FireOnRequest :
    let closed (u : Option (Fin 4)) : State := { State.reset with
      timer := { EpochTimer.cold with lastClosed := some 104 }
      conditions := { ConditionEngine.cold with
        live := { Bank.cold with triggers := Table.put Bank.cold.triggers 7 { target := u, holdOff := 0 } } } }
    Asked .fire 0x0B 8 0 0 [] State.reset ∧ Asked .fire 0x0B 7 0 0 [] State.reset ∧
    State.reset.timer.lastClosed = none ∧ Asked .fire 0x0B 7 0 0 [] (closed none) ∧
    (closed none).timer.lastClosed = some 104 ∧ (closed none).conditions.live.triggers[7].target = none ∧
    Asked .fire 0x0B 7 0 0 [] (closed (some 3)) ∧
    (closed (some 3)).conditions.live.triggers[7].target = some 3 := by decide

theorem witness_CommitRequest :
    Asked .commit 3 0 0 0 [] (committing State.reset) ∧ Asked .commit 3 0 0 0 [] State.reset ∧
    Asked .commit 3 0 0 0 [] (lanes16 41 none 0 0 0) ∧ (lanes16 41 none 0 0 0).timer.state = .running ∧
    (lanes16 41 none 0 0 0).conditions.commit = .none := by decide

theorem witness_DiscardEditsRequest :
    Asked .discardEdits 4 0 0 0 [] (committing State.reset) ∧ Asked .discardEdits 4 0 0 0 [] State.reset := by decide

/-- Unit 1 outside IDLE, not in use, overlapping unit 0, and clear of it. -/
theorem witness_ArmRequest :
    let cfg (first count : Nat) : UnitConfig := { config 1 0 0 with firstBlock := first, blockCount := count }
    let s (c : UnitConfig) :=
      let r := unit1 c UnitRuntime.cleared State.reset
      r.setCapture { r.capture with
        configs := Table.put r.capture.configs 0 (cfg 0 8)
        units := Table.put r.capture.units 0 { UnitRuntime.cleared with state := .armed, startEpoch := some 0 } }
    Asked .arm 7 4 0 0 [] State.reset ∧ Asked .arm 7 1 0 0 [] (held42 config42) ∧
    Asked .arm 7 1 0 0 [] State.reset ∧ State.reset.capture.configs[1].inUse = false ∧
    (∀ f ∈ [7, 8], Asked .arm 7 1 0 0 [] (s (cfg f 4)) ∧ (s (cfg f 4)).capture.units[1].state = .idle ∧
      (s (cfg f 4)).capture.configs[1].inUse = true) ∧
    (s (cfg 7 4)).capture.units[0].state ≠ .idle ∧ overlapsOther (s (cfg 7 4)) 1 = true ∧
    overlapsOther (s (cfg 8 4)) 1 = false := by decide

theorem witness_AbortReleaseReplay :
    let d := drain42 (.segment 2) segment2 2 false
    let draining := draining42 d []
    let delivered := unit1 config42 (frozen42 .delivered (some 1)) State.reset
    Asked .abort 8 4 0 0 [] State.reset ∧ Asked .abort 8 1 0 0 [] State.reset ∧
    Asked .abort 8 1 0 0 [] draining ∧ draining.capture.units[1].state = .draining ∧
    draining.delivery.drain = some d ∧ d.unit = 1 ∧ Asked .abort 8 1 0 0 [] (held42 config42) ∧
    (held42 config42).capture.units[1].state = .held ∧
    (∀ s ∈ [State.reset, delivered],
      Asked .release 9 4 0 0 [] s ∧ Asked .release 9 1 0 0 [] s ∧ Asked .replay 0x0A 4 0 0 [] s ∧
      Asked .replay 0x0A 1 0 0 [] s) ∧
    State.reset.capture.units[1].state ≠ .delivered ∧ delivered.capture.units[1].state = .delivered := by decide

/-- A unit in POST, with what each mode looks at. -/
def post42 : UnitRuntime :=
  { frozen42 .post none with
    record := some { record42 with settled := none }, postEnd := some 1028, countFrom := some 1000 }

/-- The span of the order of epochs: its least and its greatest distance. -/
theorem witness_RingWriteAndWindowTest_order :
    epochBefore 0xFFFFFFFF (0xFFFFFFFF + BitVec.ofNat 32 1) = true ∧
    epochBefore 5 (5 + BitVec.ofNat 32 2147483647) = true := by decide

theorem witness_RingWriteAndWindowTest :
    UnitRuntime.cleared.state ∈ [UnitState.idle, .held, .draining, .delivered] ∧ post42.state = .post ∧
    post42.record = some { record42 with settled := none } ∧ config42.postMode = .epochs ∧
    ({ config42 with postMode := .cycles } : UnitConfig).postMode = .cycles ∧ post42.countFrom = some 1000 ∧
    (∀ st ∈ [UnitState.filling, .armed], ({ UnitRuntime.cleared with state := st } : UnitRuntime).state = st) := by
  decide

theorem witness_CaptureTakesARecord :
    let s := State.reset.setCapture { CaptureController.cold with records := [offer (record 57 [])] }
    s.capture.records = [offer (record 57 [])] ∧ (offer (record 57 [])).run = s.capture.resetsTaken := by decide

/-- A fire request to unit 1 in each state; its floor is 50, so a fire at 49 is missed and one at 50 starts. -/
theorem witness_FireAnswered :
    let f (n : Epoch) : FireRequest :=
      { unit := 1, trigger := 2, epoch := n, generation := 5, forced := false, waiter := none }
    let s (c : UnitConfig) (u : UnitRuntime) (n : Epoch) :=
      let r := unit1 c u State.reset
      r.setCapture { r.capture with fires := [f n] }
    let armed : UnitRuntime := { UnitRuntime.cleared with state := .armed, startEpoch := some 40, ring := slots 50 3 }
    let c := config 1 2 3
    (s c UnitRuntime.cleared 50).capture.fires = [f 50] ∧
    (s c UnitRuntime.cleared 50).capture.units[1].state = .idle ∧
    (s c armed 50).capture.units[1].state = .armed ∧
    (armed.ring.head?.map (·.epoch)) = some 50 ∧ armed.ring ≠ [] ∧ epochBefore 49 50 = true ∧
    epochBefore 50 50 = false ∧
    (s c post42 1010).capture.units[1].state = .post ∧
    (s c post42 1010).capture.units[1].record = some { record42 with settled := none } ∧
    c.retrigger = .ignore ∧ c.postMode = .epochs ∧ post42.postEnd = some 1028 ∧ post42.countFrom = some 1000 ∧
    epochBefore 1000 1000 = false ∧ epochBefore 1000 1010 = true := by decide

/-- The Capture Controller past a soft reset that the Delivery Engine has still to take, with its drain; and the Delivery
Engine past one, a unit still DRAINING, with no drain and with a drain of another unit. -/
theorem witness_outOfStep :
    let d := drain42 (.segment 2) segment2 2 false
    let s := draining42 d [.linkLoss]
    let t := s.setCapture { CaptureController.cold with resetsTaken := 1 }
    let alone := s.setDelivery { DeliveryEngine.cold with resetsTaken := 1 }
    t.delivery.inbox = [.linkLoss] ∧ t.delivery.drain = some d ∧ t.delivery.resetsTaken ≠ t.capture.resetsTaken ∧
    Asked .abort 8 1 0 0 [] alone ∧ alone.capture.units[1].state = .draining ∧ alone.delivery.drain = none ∧
    (∀ x, (alone.setDelivery { alone.delivery with drain := some { d with unit := 2 } }).delivery.drain = some x →
      x.unit ≠ 1) :=
  ⟨by decide, by decide, by decide, by decide, by decide, by decide, by rintro _ ⟨⟩; decide⟩

theorem witness_DrainStartsAndIsBroken :
    let s := held42 config42
    let d (cut : Bool) := drain42 (.segment 2) segment2 2 cut
    s.delivery.drain = none ∧ s.link.state = .up ∧ LinkReport.linkLoss ∉ s.delivery.inbox ∧
    s.delivery.resetsTaken = s.capture.resetsTaken ∧ s.capture.drainQueue = [1] ∧
    s.capture.units[1].record = some record42 ∧
    (∀ cut ∈ [false, true], (draining42 (d cut) [.linkLoss]).delivery.inbox = [.linkLoss] ∧
      (draining42 (d cut) [.linkLoss]).delivery.drain = some (d cut) ∧ (d cut).cut = cut ∧
      (draining42 (d cut) [.linkLoss]).delivery.resetsTaken = (draining42 (d cut) [.linkLoss]).capture.resetsTaken) ∧
    (State.reset.setDelivery { DeliveryEngine.cold with inbox := [.linkLoss] }).delivery.drain = none := by decide

/-- The completions that change nothing: void, the engine IDLE, the current frame OFFERED; and each position while the
two blocks are out of step. -/
theorem witness_DrainAdvances_withoutEffect :
    let d := drain42 (.segment 2) segment2 2 false
    let idle := State.reset.setDelivery { DeliveryEngine.cold with inbox := [.completion false] }
    (draining42 d [.completion true]).delivery.inbox = [.completion true] ∧ idle.delivery.drain = none ∧
    idle.delivery.inbox = [.completion false] ∧
    (draining42 { d with mark := .offered } [.completion false]).delivery.drain = some { d with mark := .offered } ∧
    (∀ p ∈ [DrainPosition.header, .segment 0, .segment 2, .finish .complete, .finish .aborted], ∀ cut ∈ [false, true],
      let d := drain42 p segment2 2 cut
      let s := draining42 d [.completion false]
      let t := s.setCapture { CaptureController.cold with resetsTaken := 1 }
      t.delivery.inbox = [.completion false] ∧ t.delivery.drain = some d ∧ d.mark = .inTransmission ∧
      t.delivery.resetsTaken ≠ t.capture.resetsTaken) := by decide

/-- Each position, uncut and cut, segments below and at the last of three. -/
theorem witness_DrainAdvances :
    ∀ p ∈ [DrainPosition.header, .segment 0, .segment 2, .finish .complete, .finish .aborted], ∀ cut ∈ [false, true],
      let d := drain42 p segment2 0 cut
      let s := draining42 d [.completion false]
      s.delivery.inbox = [.completion false] ∧ s.delivery.drain = some d ∧ d.mark = .inTransmission ∧
      s.delivery.resetsTaken = s.capture.resetsTaken ∧ s.capture.units[1].record = some record42 := by decide

/-- What the Stream Forwarder reads of channel `c` in the statement: the replaced entry or the table's. -/
def viewed (s : State) (c : Fin 16) : StreamView :=
  match s.stream.reloads.find? fun r => r.channel = c ∧ r.before ≠ 0 with
  | some r => r.replaced
  | none => { enabled := s.channels.table[c].enabled, forward := s.channels.table[c].forward,
              divisor := s.channels.table[c].divisor }

/-- Nothing due, a frame queued, the stream disabled, and the queue full; channel 0 due by the table, channel 4 by the
entry a write replaced after the record was built, and no more once the record was built after that write. -/
theorem witness_StreamTakesARecord :
    let r := record 305 []
    let s (c : Nat) (n : Nat) (before : Nat) :=
      let t := stream76 c c r
      let off := t.setChannels { t.channels with table := Table.put t.channels.table 4 ChannelEntry.cold }
      off.setStream { t.stream with
        queue := (List.range n).map fun i => streamFrame (BitVec.ofNat 16 (80 - n + i))
        reloads := [{ channel := 4, divisor := 1, replaced := { enabled := true, forward := true, divisor := 3 }
                      before := before }] }
    let due (s : State) (c : Fin 16) : Bool :=
      ((viewed s c).enabled && (viewed s c).forward) && s.stream.counters[c] - 1 == 0
    (s 1 0 1).stream.records = [offer r] ∧ (offer r).run = (s 1 0 1).stream.resetsTaken ∧
    (∀ c, due (s 2 0 1) c = false) ∧ due (s 1 0 1) 0 = true ∧ due (s 1 0 1) 4 = true ∧ due (s 1 0 0) 4 = false ∧
    (s 1 15 1).mgmt.control.streamEnable = true ∧ State.reset.mgmt.control.streamEnable = false ∧
    (s 1 15 1).stream.queue.length < 16 ∧ 16 ≤ (s 1 16 1).stream.queue.length := by decide

theorem witness_StreamReloadCompletionAndLoss :
    let r : Reload :=
      { channel := 15, divisor := 256, replaced := { enabled := true, forward := true, divisor := 1 }, before := 0 }
    let s (f : StreamForwarder) := State.reset.setStream f
    (s { StreamForwarder.cold with reloads := [r] }).stream.reloads = [r] ∧
    (∀ void ∈ [false, true], (s { StreamForwarder.cold with
      queue := [streamFrame 0], headMark := .inTransmission, inbox := [.completion void] }).stream.inbox =
        [.completion void]) ∧
    (s { StreamForwarder.cold with queue := [streamFrame 0], inbox := [.completion false] }).stream.headMark = .offered ∧
    (s { StreamForwarder.cold with inbox := [.linkLoss] }).stream.inbox = [.linkLoss] := by decide

theorem witness_RaiseAndAlertCompletion :
    AlertSource.laneFault ∈ (alerts98 { AlertUnit.cold with raises := [.laneFault] }).alerts.raises ∧
    (∀ a ∈ [{ AlertUnit.cold with offer := .newAlert .inTransmission, inbox := [.completion false] },
        { outstanding17 with offer := .repeatAlert .inTransmission, inbox := [.completion false] },
        { AlertUnit.cold with offer := .repeatAlert .inTransmission, inbox := [.completion false] }],
      (alerts98 a).alerts.inbox = [.completion false]) ∧
    (alerts98 { AlertUnit.cold with inbox := [.completion true] }).alerts.inbox = [.completion true] ∧
    AlertUnit.cold.offer ≠ .newAlert .inTransmission ∧ AlertUnit.cold.offer ≠ .repeatAlert .inTransmission ∧
    outstanding17.state = .outstanding ∧ AlertUnit.cold.state = .quiet := by decide

theorem witness_RepeatAcknowledgementAndLoss :
    (alerts98 outstanding17).alerts.timerRunning = true ∧ Asked .alertAck 0x0C 17 0 0 [] (alerts98 outstanding17) ∧
    (alerts98 outstanding17).alerts.state = .outstanding ∧ outstanding17.outstanding = some 17 ∧
    Asked .alertAck 0x0C 16 0 0 [] (alerts98 outstanding17) ∧ outstanding17.outstanding ≠ some 16 ∧
    Asked .alertAck 0x0C 0 0 0 [] State.reset ∧ State.reset.alerts.state = .quiet ∧
    (let told (s : State) : State := s.setMgmt { s.mgmt with inbox := [.linkLoss] }
     let losses (s : State) := (s.alerts.inbox.count .linkLoss, s.mgmt.inbox.count .linkLoss)
     Asked .alertAck 0x0C 17 0 0 [] (told (alerts98 outstanding17)) ∧
     losses (told (alerts98 outstanding17)) = (0, 1) ∧ losses (alerts98 outstanding17) = (0, 0) ∧
     losses (told (alerts98 { outstanding17 with inbox := [.linkLoss] })) = (1, 1)) ∧
    (alerts98 { outstanding17 with inbox := [.linkLoss] }).alerts.inbox = [.linkLoss] ∧
    (alerts98 { AlertUnit.cold with inbox := [.linkLoss] }).alerts.inbox = [.linkLoss] := by decide

theorem witness_LinkStateChanges :
    State.reset.link.state = .down ∧ State.reset.link.tx = none ∧ (training 2).link.state ≠ .down ∧
    (up 1 State.reset).link.state ≠ .down := by decide

theorem witness_ReceivedFrames :
    (List.replicate 5 (0 : Byte)).length ∉ [4, 6, 8, 10, 14, 16, 20] ∧
    (List.replicate 0 (0 : Byte)).length + 4 ∈ [4, 6, 8, 10, 14, 16, 20] ∧
    (List.replicate 16 (0 : Byte)).length + 4 ∈ [4, 6, 8, 10, 14, 16, 20] := by decide

/-- The transmitter free with credit 1, and each source the first that has a frame. -/
theorem witness_ArbiterStartsByPriority :
    let s := up 1 State.reset
    let r : Reply := { tag := 7, kind := 1, status := .ok, content := .nothing }
    let d : Drain := { drain42 .header segment2 0 false with mark := .offered }
    (s.link.state = .up ∧ s.link.tx = none ∧ 1 ≤ s.link.credit) ∧
    ¬(1 ≤ (up 0 State.reset).link.credit) ∧ s.mgmt.replies = [] ∧ s.alerts.offer = .none ∧ s.delivery.drain = none ∧
    s.stream.queue = [] ∧ (s.setMgmt { s.mgmt with replies := [r] }).mgmt.replies = [r] ∧
    (s.setAlerts { s.alerts with offer := .newAlert .offered }).alerts.offer = .newAlert .offered ∧
    (s.setAlerts { outstanding17 with offer := .repeatAlert .offered }).alerts.outstanding = some 17 ∧
    LinkReport.linkLoss ∉ s.mgmt.inbox ∧
    LinkReport.linkLoss ∈ (s.setMgmt { s.mgmt with replies := [r], inbox := [.linkLoss] }).mgmt.inbox ∧
    (s.setDelivery { s.delivery with drain := some d }).delivery.drain = some d ∧ d.mark = .offered ∧
    (s.setStream { s.stream with queue := [streamFrame 0] }).stream.queue = [streamFrame 0] ∧
    s.stream.headMark = .offered ∧ LinkReport.linkLoss ∉ s.delivery.inbox ∧ LinkReport.linkLoss ∉ s.stream.inbox ∧
    (let e := drain42 (.finish .aborted) (.finish 42 1 2 .aborted) 2 true
     e.cut = true ∧ e.position = .finish .aborted ∧ d.cut = false ∧ d.position = .header ∧
     LinkReport.linkLoss ∈ (draining42 e [.linkLoss]).delivery.inbox) ∧
    LinkReport.linkLoss ∈ (s.setStream { s.stream with queue := [streamFrame 0], inbox := [.linkLoss] }).stream.inbox :=
  by decide

theorem witness_TransmissionEnds :
    (training 1).link.tx = some { frame := .train 0, source := .training, void := false } ∧
    (sending .stream (.stream (streamFrame 0)) (up 1 State.reset)).link.tx =
      some { frame := .stream (streamFrame 0), source := .stream, void := false } ∧
    (sending .stream (.stream (streamFrame 0)) (up 1 State.reset)).stream.inbox = [] ∧
    (draining42 (drain42 (.segment 2) segment2 2 false) [.completion false]).delivery.inbox = [.completion false] ∧
    (State.reset.setStream { StreamForwarder.cold with inbox := [.completion true] }).stream.inbox =
      [.completion true] := by decide

theorem witness_ManagementReports :
    let r : Reply := { tag := 7, kind := 1, status := .ok, content := .nothing }
    let s (i : LinkReport) (n : Nat) := State.reset.setMgmt
      { ManagementEngine.cold with inbox := [i], inTransmission := [r], unanswered := n }
    (s (.request (req 1 0 0 0 [])) 7).mgmt.inbox = [.request (req 1 0 0 0 [])] ∧
    (s (.request (req 1 0 0 0 [])) 7).mgmt.unanswered < 8 ∧ 8 ≤ (s (.request (req 1 0 0 0 [])) 8).mgmt.unanswered ∧
    (s (.completion false) 1).mgmt.inbox = [.completion false] ∧
    (s (.completion false) 1).mgmt.inTransmission = [r] ∧ (s (.completion true) 1).mgmt.inbox = [.completion true] ∧
    (s .linkLoss 1).mgmt.inbox = [.linkLoss] := by decide

theorem witness_StatusAndUnknownKind :
    Asked .status 0x0D 0 0 0 [] State.reset ∧ Asked .unknownKind 0 0 0 0 [] State.reset ∧
    Asked .unknownKind 0x0F 0 0 0 [] State.reset := by decide

/-- The RESET asked for; every block having taken it; none. -/
theorem witness_ResetRequest :
    let none' := resetting State.reset
    let all := none'.setMgmt { none'.mgmt with resetsIssued := 0 }
    let taken (s : State) := ∀ n ∈ [s.timer.resetsTaken, s.channels.resetsTaken, s.conditions.resetsTaken,
      s.capture.resetsTaken, s.delivery.resetsTaken, s.stream.resetsTaken, s.alerts.resetsTaken], n = s.mgmt.resetsIssued
    Asked .reset 0x0E 0 0 0 [] State.reset ∧ none'.mgmt.exec = .awaitReset 6 ∧
    none'.mgmt.requests = [req 0x0E 0 0 0 []] ∧ ¬taken none' ∧ taken all ∧ all.mgmt.exec = .awaitReset 6 := by decide

/-- Every block with the reset still to take; and the Condition Engine past it, a commit pending and its reply
deferred, with the Epoch Timer still to take it. -/
theorem witness_SoftResetOfEachBlock :
    let s := resetting State.reset
    let late : State := { s with
      conditions := { ConditionEngine.cold with commit := .pending, resetsTaken := 1 }
      mgmt := { s.mgmt with deferred := some 12, unanswered := 2 } }
    late.timer.resetsTaken < late.mgmt.resetsIssued ∧ late.timer.resetsTaken < late.conditions.resetsTaken ∧
    s.timer.resetsTaken < s.mgmt.resetsIssued ∧ s.channels.resetsTaken < s.mgmt.resetsIssued ∧
    s.conditions.resetsTaken < s.mgmt.resetsIssued ∧ s.mgmt.deferred = none ∧
    s.capture.resetsTaken < s.mgmt.resetsIssued ∧ s.delivery.resetsTaken < s.mgmt.resetsIssued ∧
    s.stream.resetsTaken < s.mgmt.resetsIssued ∧ s.alerts.resetsTaken < s.mgmt.resetsIssued := by decide

/-- The first byte of the largest word and of the smallest mark. -/
theorem witness_LaneSymbolLayout :
    laneCheck [0x7F, 0, 0] ≠ laneCheck [0x80, 0, 0] ∧ 128 ≤ (0x80 : Byte).toNat ∧ (0x7F : Byte).toNat < 128 := by
  decide +kernel

/-- Each kind with its length, the first count of bytes that no kind has, and a length field the bytes disagree with. -/
theorem witness_RequestFrameRoundTrip_kinds :
    (∀ p ∈ [((0x01 : Byte), ([1, 2, 3, 4] : List Byte)), (0x02, [0x0D, 0, 0, 0]), (0x03, [200, 7]), (0x04, []),
        (0x81, [0, 0, 0, 0])],
      ∃ c1 c0, bytes16 (frameCheck ([p.1, 9] ++ countBytes p.2.length ++ p.2)) = [c1, c0] ∧ p.2.length < 65536) ∧
    ([0, 0, 0, 0, 0] : List Byte).length ≠ 256 * (0 : Byte).toNat + (4 : Byte).toNat + 2 ∧
    ([1, 0, 0, 0, 0] : List Byte).length < 6 := by
  refine ⟨?_, by decide, by decide⟩
  intro p hp; exact ⟨_, _, rfl, by fin_cases hp <;> decide⟩

theorem witness_RequestFrameRoundTrip :
    let body : List Byte := [0x0D, 0, 0, 0]
    let head : List Byte := [0x02, 5] ++ countBytes body.length
    ∃ c1 c0, bytes16 (frameCheck (head ++ body)) = [c1, c0] ∧ bytes16 (frameCheck (head ++ body)) ≠ [c1 + 1, c0] ∧
      body.length ∈ [4, 6, 8, 10, 14, 16, 20] ∧ [(0 : Byte)].length ∉ [4, 6, 8, 10, 14, 16, 20] :=
  ⟨_, _, rfl, by decide +kernel, by decide, by decide⟩

/-- Bytes that differ in reserved bits only, and the operand byte of each action. -/
theorem witness_EntriesReadBackAsWritten_reserved :
    let operand (k v w : Byte) : Prop := v = w ∨ (k = 1 ∧ v.toNat % 16 = w.toNat % 16) ∨ k = 0 ∨ k = 4
    (0x0F : Byte).toNat % 16 = (0xFF : Byte).toNat % 16 ∧ (0x7F : Byte).toNat % 128 = (0xFF : Byte).toNat % 128 ∧
    (1 : Byte).toNat % 2 = (0xFF : Byte).toNat % 2 ∧ (7 : Byte).toNat % 8 = (0xFF : Byte).toNat % 8 ∧
    operand 0 0 0xFF ∧ operand 1 0x03 0xF3 ∧ operand 2 7 7 ∧ operand 4 0xFF 0 := by decide

theorem witness_EntriesReadBackAsWritten :
    10 ≤ ({ ControlRecord.cold with period := 10 } : ControlRecord).period.toNat ∧
    (let e : ChannelEntry := { ChannelEntry.cold with hysteresis := 4095, divisor := 256 }
     e.hysteresis ≤ 4095 ∧ 1 ≤ e.divisor ∧ e.divisor ≤ 256) ∧
    ConditionEntry.cold.onTrue ≠ .skip 0 ∧ ConditionEntry.cold.onFalse ≠ .skip 0 ∧
    ({ target := some 3, holdOff := 65535 } : TriggerEntry).holdOff ≤ 65535 ∧
    (let c : UnitConfig := { config 1 4095 4095 with firstBlock := 0, blockCount := 64, guard := 4095 }
     c.firstBlock ≤ 63 ∧ c.blockCount ≤ 64 ∧ c.pre ≤ 4095 ∧ c.postLength ≤ 4095 ∧ c.guard ≤ 4095 ∧
       c.usable = true) := by decide

/-- A request in the queue with its READ next. -/
theorem witness_StepKeepsRequestsSound :
    let s := (ask (req 1 0 0 0 []) State.reset).setPending [.read]
    RequestsSound s ∧ ∃ t, step s = .next t :=
  ⟨by unfold RequestsSound; decide, _, rfl⟩

theorem witness_StepKeepsLinkSound :
    let s := (training 2).setPending [.trainFrame]
    s.link.Sound ∧ ∃ t, step s = .next t := by
  refine ⟨⟨by decide, nofun, fun _ => ⟨by decide, rfl, rfl, _, rfl, rfl⟩, nofun, ?_⟩, _, rfl⟩
  intro t h; cases h; rfl

theorem witness_StepKeepsAlertsSound :
    let s := (alerts98 outstanding17).setPending [.reAnnounceTimerExpiry]
    s.alerts.Sound s.mgmt.control.alerts ∧ ∃ t, step s = .next t := by
  refine ⟨⟨by decide, nofun, fun _ => rfl, nofun, nofun, nofun, fun _ => ⟨rfl, rfl⟩, nofun, nofun⟩, _, rfl⟩

theorem witness_StepKeepsStreamSound :
    let s := (State.reset.setStream { StreamForwarder.cold with
      queue := [streamFrame 0xFFFE, streamFrame 0xFFFF], sequence := 0 }).setPending [.linkLossStream]
    s.stream.Sound ∧ ∃ t, step s = .next t :=
  ⟨⟨by decide, ⟨rfl, rfl, trivial⟩, nofun, by decide⟩, _, rfl⟩

theorem witness_StepKeepsEpochsSound :
    let s := (lanes16 42 (some 41) 3 0 0).setPending [.periodExpiry]
    EpochsSound s ∧ ∃ t, step s = .next t :=
  ⟨by unfold EpochsSound Lane.Sound; decide, _, rfl⟩

/-- Unit 1 HELD at the head of the drain queue, its drain next. -/
theorem witness_StepKeepsCaptureSound :
    let s := (held42 config42).setPending [.drainStart]
    CaptureSound s ∧ ∃ t, step s = .next t := by
  refine ⟨⟨?_, by decide, by decide, by decide, by decide, by decide, by decide⟩, _, rfl⟩
  intro u
  match u with
  | 0 => rfl
  | 1 => exact ⟨record42, rfl, nofun⟩
  | 2 => rfl
  | 3 => rfl

theorem witness_StepKeepsRegionsDisjoint :
    let s := (held42 config42).setPending [.drainStart]
    RegionsDisjoint s ∧ ∃ t, step s = .next t :=
  ⟨by unfold RegionsDisjoint; decide, _, rfl⟩

/-- A COMMIT while STOPPED swaps; a walk with no commit pending leaves the banks. -/
theorem witness_BanksChangeOnlyBySwap :
    Instr.commit ≠ .coldReset ∧ Instr.walk ≠ .coldReset ∧
    (∃ t, exec .commit (ask (req 3 0 0 0 []) State.reset) = .next t ∧ t.conditions.generation = 1) ∧
    (∃ t, exec .walk (walk37 (record 200 [])) = .next t ∧ t.conditions.generation = 0) :=
  ⟨nofun, nofun, ⟨_, rfl, by decide⟩, ⟨_, rfl, by decide⟩⟩

/-- Unit 1 HELD with channel 0 in its mask, and a WRITE of channel 0. -/
theorem witness_ProtectedEntriesStay :
    let s := ask (req 2 1 0 0 ChannelEntry.cold.bytes) (held42 config42)
    Instr.writeChannel ≠ .coldReset ∧ (∃ t, exec .writeChannel s = .next t) ∧ s.capture.units[1].state ≠ .idle ∧
    has s.capture.configs[1].mask 0 = true :=
  ⟨nofun, ⟨_, rfl⟩, by decide, by decide⟩

end Sys2Proof.Tests
end

section
/-! The values of a channel (R24): what each coding reads, and its inverse. -/

namespace Sys2Proof.Machine

/-- BIPOLAR reads a two's complement number. -/
theorem codedValue_bipolar (raw : BitVec 16) :
    codedValue .bipolar raw = if raw.toNat < 32768 then (raw.toNat : Int) else raw.toNat - 65536 := by
  have signed : codedValue .bipolar raw = raw.toInt := rfl
  rw [signed, BitVec.toInt_eq_toNat_cond]
  split <;> split <;> omega

/-- UNIPOLAR reads an unsigned number, less 32768. -/
theorem codedValue_unipolar (raw : BitVec 16) : codedValue .unipolar raw = (raw.toNat : Int) - 32768 := rfl

/-- The raw value a coding reads as `x`: the inverse of `codedValue` (`codedValue_rawOf`, `rawOf_codedValue`). -/
def rawOf (c : Coding) (x : Int) : BitVec 16 :=
  match c with
  | .bipolar => BitVec.ofInt 16 x
  | .unipolar => BitVec.ofInt 16 (x + 32768)

theorem codedValue_rawOf (c : Coding) {x : Int} (low : -32768 ≤ x) (high : x ≤ 32767) :
    codedValue c (rawOf c x) = x := by
  cases c with
  | bipolar => exact BitVec.toInt_ofInt_eq_self (by decide) low (by omega)
  | unipolar =>
    rw [codedValue_unipolar, rawOf, BitVec.toNat_ofInt]
    omega

theorem rawOf_codedValue (c : Coding) (raw : BitVec 16) : rawOf c (codedValue c raw) = raw := by
  cases c with
  | bipolar => exact BitVec.ofInt_toInt
  | unipolar =>
    have shifted : (raw.toNat : Int) - 32768 + 32768 = raw.toNat := by omega
    rw [codedValue_unipolar, rawOf, shifted, BitVec.ofInt_natCast, BitVec.ofNat_toNat, BitVec.setWidth_eq]

end Sys2Proof.Machine

namespace Sys2Proof.Proofs.ChannelValues
open Sys2Proof.Machine

/-- Settles O10: `rawOf` inverts `codedValue` on both sides, so it gives the one raw value of each value. -/
theorem codedValue : Obligations.CodedValue := by
  refine ⟨codedValue_bipolar, codedValue_unipolar, fun c x low high => ?_⟩
  refine ⟨rawOf c x, codedValue_rawOf c low high, fun other reads => ?_⟩
  rw [← reads, rawOf_codedValue]

end Sys2Proof.Proofs.ChannelValues
end

section
/-! The tests that compare a value with levels (R43, R44): each as a comparison of exact integers, and what follows
from the range of a value and from the order of the two levels. -/

namespace Sys2Proof.Machine

variable {levels : Table Value 32} {rec : EpochRecord} {e : ConditionEntry} {v : Value}

/-- R42: on a channel that is not present, ABSENT is the one test that is true. -/
theorem evalTest_of_not_present (absent : rec.fields[e.channel].value = none) :
    evalTest levels rec e = (e.test == .absent) := by
  simp only [evalTest, absent]

theorem evalTest_above_iff (present : rec.fields[e.channel].value = some v) :
    evalTest levels rec { e with test := .above } = true ↔ levels[e.levelA].toInt < v.toInt := by
  simp only [evalTest, present, decide_eq_true_iff]

theorem evalTest_below_iff (present : rec.fields[e.channel].value = some v) :
    evalTest levels rec { e with test := .below } = true ↔ v.toInt < levels[e.levelA].toInt := by
  simp only [evalTest, present, decide_eq_true_iff]

theorem evalTest_inside_iff (present : rec.fields[e.channel].value = some v) :
    evalTest levels rec { e with test := .inside } = true ↔
      levels[e.levelA].toInt ≤ v.toInt ∧ v.toInt ≤ levels[e.levelB].toInt := by
  simp only [evalTest, present, Bool.and_eq_true, decide_eq_true_iff]

theorem evalTest_outside_iff (present : rec.fields[e.channel].value = some v) :
    evalTest levels rec { e with test := .outside } = true ↔
      v.toInt < levels[e.levelA].toInt ∨ levels[e.levelB].toInt < v.toInt := by
  simp only [evalTest, present, Bool.or_eq_true, decide_eq_true_iff]

/-- No value exceeds a level of 32767. -/
theorem evalTest_above_of_greatest_level (present : rec.fields[e.channel].value = some v)
    (greatest : levels[e.levelA].toInt = 32767) : evalTest levels rec { e with test := .above } = false := by
  have bound : v.toInt < 32768 := BitVec.toInt_lt
  rw [Bool.eq_false_iff, Ne, evalTest_above_iff present]
  omega

/-- No value is less than a level of -32768. -/
theorem evalTest_below_of_least_level (present : rec.fields[e.channel].value = some v)
    (least : levels[e.levelA].toInt = -32768) : evalTest levels rec { e with test := .below } = false := by
  have bound : -32768 ≤ v.toInt := BitVec.le_toInt v
  rw [Bool.eq_false_iff, Ne, evalTest_below_iff present]
  omega

theorem evalTest_outside_eq_not_inside (present : rec.fields[e.channel].value = some v) :
    evalTest levels rec { e with test := .outside } = !evalTest levels rec { e with test := .inside } := by
  rw [Bool.eq_iff_iff, Bool.not_eq_true', Bool.eq_false_iff, Ne, evalTest_outside_iff present,
    evalTest_inside_iff present]
  omega

/-- No value lies between levels in the wrong order. -/
theorem evalTest_inside_of_levels_reversed (present : rec.fields[e.channel].value = some v)
    (reversed : levels[e.levelB].toInt < levels[e.levelA].toInt) :
    evalTest levels rec { e with test := .inside } = false := by
  rw [Bool.eq_false_iff, Ne, evalTest_inside_iff present]
  omega

theorem evalTest_outside_of_levels_reversed (present : rec.fields[e.channel].value = some v)
    (reversed : levels[e.levelB].toInt < levels[e.levelA].toInt) :
    evalTest levels rec { e with test := .outside } = true := by
  rw [evalTest_outside_eq_not_inside present, evalTest_inside_of_levels_reversed present reversed, Bool.not_false]

/-- Between a level and itself lies that level alone. -/
theorem evalTest_inside_same_level (present : rec.fields[e.channel].value = some v) (same : e.levelA = e.levelB) :
    evalTest levels rec { e with test := .inside } = true ↔ v = levels[e.levelA] := by
  have sameLevel : levels[e.levelB] = levels[e.levelA] := by simp only [same]
  rw [evalTest_inside_iff present, sameLevel, ← BitVec.toInt_inj]
  omega

theorem evalTest_outside_same_level (present : rec.fields[e.channel].value = some v) (same : e.levelA = e.levelB) :
    evalTest levels rec { e with test := .outside } = true ↔ v ≠ levels[e.levelA] := by
  rw [evalTest_outside_eq_not_inside present, Bool.not_eq_true', Bool.eq_false_iff]
  exact (evalTest_inside_same_level present same).not

/-- The level tests read the channel's value and nothing else of the record. -/
theorem evalTest_level_congr {other : EpochRecord} {k : Test} (present : rec.fields[e.channel].value = some v)
    (samePresent : other.fields[e.channel].value = some v) (level : k ∈ [Test.above, .below, .inside, .outside]) :
    evalTest levels other { e with test := k } = evalTest levels rec { e with test := k } := by
  simp only [List.mem_cons, List.not_mem_nil, or_false] at level
  rw [Bool.eq_iff_iff]
  obtain rfl | rfl | rfl | rfl := level
  · rw [evalTest_above_iff samePresent, evalTest_above_iff present]
  · rw [evalTest_below_iff samePresent, evalTest_below_iff present]
  · rw [evalTest_inside_iff samePresent, evalTest_inside_iff present]
  · rw [evalTest_outside_iff samePresent, evalTest_outside_iff present]

end Sys2Proof.Machine

namespace Sys2Proof.Proofs.LevelTests
open Sys2Proof.Machine

/-- Settles O18: each test is its comparison of integers, from which the other clauses follow. -/
theorem levelTests : Obligations.LevelTests := by
  intro levels rec e
  constructor
  case left =>
    intro absent
    exact ⟨evalTest_of_not_present absent, evalTest_of_not_present absent, evalTest_of_not_present absent,
      evalTest_of_not_present absent⟩
  case right =>
    intro v present
    exact ⟨evalTest_above_iff present, evalTest_below_iff present, evalTest_inside_iff present,
      evalTest_outside_iff present, evalTest_above_of_greatest_level present, evalTest_below_of_least_level present,
      evalTest_outside_eq_not_inside present,
      fun reversed => ⟨evalTest_inside_of_levels_reversed present reversed,
        evalTest_outside_of_levels_reversed present reversed⟩,
      fun same => ⟨evalTest_inside_same_level present same, evalTest_outside_same_level present same⟩,
      fun _ samePresent _ level => evalTest_level_congr present samePresent level⟩

end Sys2Proof.Proofs.LevelTests
end

section
/-! The two requests on the banks (R126, R131): each outcome of COMMIT and of DISCARD-EDITS as an equation, and the
reply they queue in the words of the statements. -/

namespace Sys2Proof.Machine

variable {s : State} {q : Request} {rest : List Request}

theorem finishHead_eq_replied (queued : s.mgmt.requests = q :: rest) (st : Status) (c : ReplyContent) :
    finishHead st c s = replied q rest st c s := finishHead_cons queued st c

theorem refuse_eq_replied (queued : s.mgmt.requests = q :: rest) (st : Status) :
    refuse st s = replied q rest st .nothing s := finishHead_eq_replied queued st .nothing

/-- A request that works on the Condition Engine alone is answered. -/
theorem finishHead_setConditions (queued : s.mgmt.requests = q :: rest) (st : Status) (c : ReplyContent)
    (x : ConditionEngine) :
    finishHead st c (s.setConditions x) = replied q rest st c { s with conditions := x } :=
  finishHead_eq_replied (s := s.setConditions x) queued st c

/-- R127: with no commit pending, a swap moves the LIVE bank, the generation and the hold-offs alone. -/
theorem swapBanks_of_none {c : ConditionEngine} (quiet : c.commit = .none) :
    swapBanks c = { c with
      live := c.edit
      generation := c.generation + 1
      triggers := Vector.ofFn fun t => { c.triggers[t] with remaining := 0 } } := by
  rw [swapBanks, ← quiet]
  rfl

theorem commit_pending (pending : s.conditions.commit = .pending) : commit q s = refuse .busy s := by
  simp only [commit, pending]

/-- While the timer is STOPPED the swap is made at once, and the reply carries the generation it gives. -/
theorem commit_stopped (quiet : s.conditions.commit = .none) (stopped : s.timer.state = .stopped) :
    commit q s = finishHead .ok (.commit (s.conditions.generation + 1) s.conditions.nextWalk)
      (s.setConditions (swapBanks s.conditions)) := by
  simp only [commit, quiet, stopped]
  rfl

theorem commit_running (quiet : s.conditions.commit = .none) (running : s.timer.state = .running) :
    commit q s = deferCommit q s := by
  simp only [commit, quiet, running]

/-- R130: the COMMIT has left the queue, and its reply waits in the deferred reply slot. -/
theorem deferCommit_cons (queued : s.mgmt.requests = q :: rest) :
    deferCommit q s = { s with
      conditions := { s.conditions with commit := .pending }
      mgmt := { s.mgmt with requests := rest, deferred := some q.tag } } := by
  rw [deferCommit, State.setConditions_mgmt, queued]
  rfl

theorem discardEdits_pending (pending : s.conditions.commit = .pending) : discardEdits q s = refuse .busy s := by
  simp only [discardEdits, pending]

theorem discardEdits_none (quiet : s.conditions.commit = .none) :
    discardEdits q s = finishHead .ok (.generation s.conditions.generation)
      (s.setConditions { s.conditions with edit := s.conditions.live }) := by
  simp only [discardEdits, quiet]

end Sys2Proof.Machine

namespace Sys2Proof.Proofs.BankRequests
open Sys2Proof.Machine

/-- Settles O26: one equation of `commit` for each state of the commit and of the timer. -/
theorem commitRequest : Obligations.CommitRequest := by
  rintro s q rest ⟨idle, queued, row⟩
  rw [exec_commit, execHead_run idle queued row]
  refine ⟨fun pending => ?_, fun quiet stopped => ?_, fun quiet running => ?_⟩
  · rw [commit_pending pending, refuse_eq_replied queued]
  · rw [commit_stopped quiet stopped, swapBanks_of_none quiet, finishHead_setConditions queued]
  · rw [commit_running quiet running, deferCommit_cons queued]

/-- Settles O27: one equation of `discardEdits` for each state of the commit. -/
theorem discardEditsRequest : Obligations.DiscardEditsRequest := by
  rintro s q rest ⟨idle, queued, row⟩
  rw [exec_discardEdits, execHead_run idle queued row]
  refine ⟨fun pending => ?_, fun quiet => ?_⟩
  · rw [discardEdits_pending pending, refuse_eq_replied queued]
  · rw [discardEdits_none quiet, finishHead_setConditions queued]

end Sys2Proof.Proofs.BankRequests
end

section
/-! Lane symbols (R176): what the four bytes are, by the check and the type bit, and the fields of a word as numbers of
its bytes. -/

namespace Sys2Proof.Machine

variable {l : Fin 4} {b0 b1 b2 b3 : Byte}

theorem laneSymbol_of_check_fails (failing : laneCheck [b0, b1, b2] ≠ b3) :
    laneSymbol l b0 b1 b2 b3 = .badSymbol l := if_neg failing

theorem laneSymbol_of_mark (passing : laneCheck [b0, b1, b2] = b3) (typeBit : b0.msb = true) :
    laneSymbol l b0 b1 b2 b3 = .alignmentMark l := by
  rw [laneSymbol, if_pos passing, if_pos typeBit]

theorem laneSymbol_of_word (passing : laneCheck [b0, b1, b2] = b3) (typeBit : b0.msb = false) :
    laneSymbol l b0 b1 b2 b3 =
      .laneWord l (b0.extractLsb' 3 4) (b0.extractLsb' 0 3).toFin (word16 b1 b2) := by
  rw [laneSymbol, if_pos passing, typeBit, if_neg Bool.false_ne_true]

/-- Two bytes as one number, in base 256. -/
theorem toNat_word16 (hi lo : Byte) : (word16 hi lo).toNat = 256 * hi.toNat + lo.toNat := by
  rw [word16, BitVec.toNat_append, ← Nat.shiftLeft_add_eq_or_of_lt lo.isLt, Nat.shiftLeft_eq, Nat.mul_comm]

/-- Bits 6 to 3, when bit 7 is clear. -/
theorem toNat_laneTag (b : Byte) (word : b.toNat < 128) : (b.extractLsb' 3 4).toNat = b.toNat / 8 := by
  rw [BitVec.extractLsb'_toNat, Nat.shiftRight_eq_div_pow]
  omega

/-- Bits 2 to 0. -/
theorem val_laneSlot (b : Byte) : (b.extractLsb' 0 3).toFin.val = b.toNat % 8 := by
  rw [BitVec.val_toFin, BitVec.extractLsb'_toNat, Nat.shiftRight_zero]

end Sys2Proof.Machine

namespace Sys2Proof.Proofs.LaneSymbols
open Sys2Proof.Machine

/-- Settles O47: one equation of `laneSymbol` for each outcome of the check and each value of the type bit, and the
three fields of a word. -/
theorem laneSymbolLayout : Obligations.LaneSymbolLayout := by
  intro l b0 b1 b2 b3
  refine ⟨laneSymbol_of_check_fails, fun passing mark => ?_, fun passing word => ?_⟩
  · exact laneSymbol_of_mark passing (BitVec.msb_eq_true_iff_two_mul_ge.mpr (by omega))
  · have typeBit : b0.msb = false := BitVec.msb_eq_false_iff_two_mul_lt.mpr (by omega)
    exact ⟨_, _, _, laneSymbol_of_word passing typeBit, toNat_laneTag b0 word, val_laneSlot b0, toNat_word16 b1 b2⟩

end Sys2Proof.Proofs.LaneSymbols
end

section
/-! The statements of the family "other", and the lemmas they need. Elaborated in order, so that proofs waiting for one
another do not each hold a thread's stack within the check's memory limit. -/

set_option Elab.async false

section
/-! What it takes to show that every step keeps a property: that every command keeps it. -/

namespace Sys2Proof.Machine

/-- A property that does not speak of the queue of commands is kept by every step when every command keeps it. -/
theorem step_keeps {P : State → Prop} (queue : ∀ s l, P s → P (s.setPending l))
    (command : ∀ c s t, P s → exec c s = .next t → P t) {s t : State} (holds : P s) (stepped : step s = .next t) :
    P t := by
  unfold step at stepped
  split at stepped
  · cases stepped
    exact holds
  · exact command _ _ _ (queue _ _ holds) stepped

/-- A soft reset to take is taken, or the block has taken every one. -/
theorem takeReset_keeps (P : State → Prop) {taken : Nat} {act : State → State} {s : State} (holds : P s)
    (taking : P (act s)) : P (takeReset taken act s) := by
  unfold takeReset
  split
  · exact taking
  · exact holds

/-- ALERT-ACK waits, or is executed as any other request. -/
theorem ackHead_keeps (P : State → Prop) {s : State} (holds : P s) (executed : P (execHead .alertAck alertAck s)) :
    P (if lossTakenFirst s then s else execHead .alertAck alertAck s) := by
  split
  · exact holds
  · exact executed

/-! ### What an event of a block can do, said once: nothing, or the operations of the block and then the arbiter -/

variable (P : State → Prop) {s : State}

theorem walk_keeps (holds : P s)
    (taken : ∀ o rest, s.conditions.records = o :: rest → o.run = s.conditions.resetsTaken →
      P (arbitrate (walkRecord o.record (s.setConditions { s.conditions with records := rest })))) : P (walk s) := by
  unfold walk
  split
  · exact holds
  · next o rest waiting =>
    split
    · next run => exact taken o rest waiting run
    · exact holds

theorem captureRecordTake_keeps (holds : P s)
    (taken : ∀ o rest, s.capture.records = o :: rest → o.run = s.capture.resetsTaken →
      P (unitsTake o.record (s.setCapture { s.capture with records := rest, nextRecord := o.record.epoch + 1 }))) :
    P (captureRecordTake s) := by
  unfold captureRecordTake
  split
  · exact holds
  · next o rest waiting =>
    split
    · next run => exact taken o rest waiting run
    · exact holds

theorem streamRecordTake_keeps (holds : P s)
    (taken : ∀ o rest, s.stream.records = o :: rest → o.run = s.stream.resetsTaken →
      P (arbitrate (streamRecord o.record (s.setStream { s.stream with records := rest })))) :
    P (streamRecordTake s) := by
  unfold streamRecordTake
  split
  · exact holds
  · next o rest waiting =>
    split
    · next run => exact taken o rest waiting run
    · exact holds

theorem fireRequest_keeps (holds : P s)
    (taken : ∀ f rest, s.capture.fires = f :: rest → P (takeFire f (s.setCapture { s.capture with fires := rest }))) :
    P (fireRequest s) := by
  unfold fireRequest
  split
  · exact holds
  · next f rest waiting => exact taken f rest waiting

theorem fireAnswer_keeps (holds : P s)
    (taken : ∀ a rest, s.conditions.answers = a :: rest →
      P (arbitrate (completeFire a (countAnswer a (s.setConditions { s.conditions with answers := rest }))))) :
    P (fireAnswer s) := by
  unfold fireAnswer
  split
  · exact holds
  · next a rest waiting => exact taken a rest waiting

theorem streamFrameCompletion_keeps (holds : P s)
    (taken : ∀ v rest, s.stream.inbox = .completion v :: rest → P (arbitrate (takeStreamCompletion s))) :
    P (streamFrameCompletion s) := by
  unfold streamFrameCompletion
  split
  · next v rest reported => exact taken v rest reported
  · exact holds

theorem decimationReload_keeps (holds : P s)
    (taken : ∀ r rest, s.stream.reloads = r :: rest → P (s.setStream { s.stream with
      reloads := rest, counters := Table.put s.stream.counters r.channel r.divisor })) : P (decimationReload s) := by
  unfold decimationReload
  split
  · exact holds
  · next r rest waiting => exact taken r rest waiting

theorem captureFrameCompletion_keeps (holds : P s)
    (taken : ∀ v rest, s.delivery.inbox = .completion v :: rest → P (arbitrate (takeCaptureCompletion s))) :
    P (captureFrameCompletion s) := by
  unfold captureFrameCompletion
  split
  · next v rest reported => exact taken v rest reported
  · exact holds

theorem drainStart_keeps (holds : P s)
    (started : ∀ u rest r, mayStartDrain s = true → s.capture.drainQueue = u :: rest →
      s.capture.units[u].record = some r → P (arbitrate (startDrain u rest r s))) : P (drainStart s) := by
  unfold drainStart
  split
  · next may =>
    split
    · exact holds
    · next u rest queued =>
      split
      · exact holds
      · next r record => exact started u rest r may queued record
  · exact holds

theorem alertRaise_keeps (src : AlertSource) (holds : P s)
    (taken : src ∈ s.alerts.raises → P (arbitrate (settleAlerts (s.setAlerts (s.alerts.take src))))) :
    P (alertRaise src s) := by
  unfold alertRaise
  split
  · next raised => exact taken raised
  · exact holds

theorem reAnnounceTimerExpiry_keeps (holds : P s)
    (expired : s.alerts.timerRunning = true → P (arbitrate (s.setAlerts { s.alerts with
      timerRunning := false
      repeatCount := satAdd Config.count8Max s.alerts.repeatCount 1
      offer := .repeatAlert .offered }))) : P (reAnnounceTimerExpiry s) := by
  unfold reAnnounceTimerExpiry
  split
  · next running => exact expired running
  · exact holds

/-- A completion reported to the Alert Unit has its effect on the alert in transmission, or none. -/
theorem alertFrameCompletion_keeps (holds : P s)
    (void : ∀ v rest, s.alerts.inbox = .completion v :: rest → P (s.setAlerts { s.alerts with inbox := rest }))
    (new : ∀ v rest, s.alerts.inbox = .completion v :: rest → s.alerts.offer = .newAlert .inTransmission →
      P (arbitrate (settleAlerts (s.setAlerts ({ s.alerts with inbox := rest } : AlertUnit).newCompleted))))
    (again : ∀ v rest, s.alerts.inbox = .completion v :: rest → s.alerts.offer = .repeatAlert .inTransmission →
      P (arbitrate (settleAlerts (s.setAlerts ({ s.alerts with inbox := rest } : AlertUnit).repeatCompleted)))) :
    P (alertFrameCompletion s) := by
  unfold alertFrameCompletion
  split
  · next v rest reported =>
    dsimp only
    split
    · exact void v rest reported
    · split
      · next offer => exact new v rest reported offer
      · next offer => exact again v rest reported offer
      · exact void v rest reported
  · exact holds

theorem linkLossAlert_keeps (holds : P s)
    (taken : ∀ rest t, s.alerts.inbox = .linkLoss :: rest →
      t = giveUpFrames .alert (s.setAlerts { s.alerts with inbox := rest }) →
      P (arbitrate (settleAlerts (t.setAlerts t.alerts.linkLoss)))) : P (linkLossAlert s) := by
  unfold linkLossAlert
  split
  · next rest reported => exact taken rest _ reported rfl
  · exact holds

theorem softResetDone_keeps (holds : P s)
    (done : ∀ n, s.mgmt.exec = .awaitReset n → P (arbitrate (finishHead .ok (.voids n) s))) : P (softResetDone s) := by
  unfold softResetDone
  split
  · next n waiting =>
    split
    · exact done n waiting
    · exact holds
  · exact holds
  · exact holds

theorem linkLossOfSignal_keeps (holds : P s) (lost : P (enterDown s)) : P (linkLossOfSignal s) := by
  unfold linkLossOfSignal
  split
  · exact holds
  · exact lost
  · exact lost

theorem badFrame_keeps (holds : P s) (training : s.link.state = .training → P (breakTraining s))
    (lost : P (enterDown (raise .linkProtocol s)))
    (counted : s.link.state = .up → s.link.badRun + 1 ≠ Config.badToDown →
      P ((raise .linkProtocol s).setLink { s.link with badRun := s.link.badRun + 1 })) : P (badFrame s) := by
  unfold badFrame
  split
  · exact holds
  · next isTraining => exact training isTraining
  · next up =>
    dsimp only
    split
    · exact lost
    · next short => exact counted up short

theorem requestFrame_keeps (tag : Byte) (body : List Byte) (holds : P s)
    (training : s.link.state = .training → P (breakTraining s))
    (received : ∀ r, s.link.state = .up → P (report .reply (.request r) (goodFrame s))) (bad : P (badFrame s)) :
    P (requestFrame tag body s) := by
  unfold requestFrame
  split
  · next r _ _ =>
    split
    · exact holds
    · next isTraining => exact training isTraining
    · next up => exact received r up
  · exact bad

theorem creditFrame_keeps (count : Byte) (holds : P s) (training : s.link.state = .training → P (breakTraining s))
    (granted : s.link.state = .up → P (arbitrate (grant count (goodFrame s)))) : P (creditFrame count s) := by
  unfold creditFrame
  split
  · exact holds
  · next isTraining => exact training isTraining
  · next up => exact granted up

theorem nextFrame_keeps (holds : P s) (train : P (startTrain s)) (arbitrated : P (arbitrate s)) : P (nextFrame s) := by
  unfold nextFrame
  split
  · exact holds
  · exact train
  · exact arbitrated

theorem completeFirst_keeps (src : Source) (holds : P s) (capture : P (takeCaptureCompletion s))
    (stream : P (takeStreamCompletion s)) : P (completeFirst src s) := by
  unfold completeFirst
  split
  · split
    · exact capture
    · exact holds
  · split
    · exact stream
    · exact holds
  all_goals exact holds

/-- The end of a transmission keeps what the report of it, the source's taking of it and the next start keep. -/
theorem transmissionCompletion_keeps (first : Bool) (holds : P s)
    (told : ∀ t, s.link.tx = some t → P (report t.source (.completion t.void) (s.setLink { s.link with tx := none })))
    (capture : ∀ u, P u → P (takeCaptureCompletion u)) (stream : ∀ u, P u → P (takeStreamCompletion u))
    (train : ∀ u, P u → P (startTrain u)) (arbitrated : ∀ u, P u → P (arbitrate u)) :
    P (transmissionCompletion first s) := by
  have next {u : State} (ended : P u) : P (nextFrame u) := nextFrame_keeps P ended (train u ended) (arbitrated u ended)
  unfold transmissionCompletion
  split
  · exact holds
  · next t busy =>
    dsimp only
    split
    · exact next (completeFirst_keeps P _ (told t busy) (capture _ (told t busy)) (stream _ (told t busy)))
    · exact next (told t busy)

theorem requestArrival_keeps (holds : P s)
    (queued : ∀ r rest, s.mgmt.inbox = .request r :: rest → s.mgmt.unanswered < Config.unansweredMax →
      P (s.setMgmt { s.mgmt with
        inbox := rest, requests := s.mgmt.requests ++ [r], unanswered := s.mgmt.unanswered + 1 }))
    (discarded : ∀ r rest, s.mgmt.inbox = .request r :: rest → Config.unansweredMax ≤ s.mgmt.unanswered →
      P (raise .linkProtocol (s.setMgmt { s.mgmt with inbox := rest }))) : P (requestArrival s) := by
  unfold requestArrival
  split
  · next r rest reported =>
    dsimp only
    split
    · next room => exact queued r rest reported room
    · next full => exact discarded r rest reported (Nat.le_of_not_lt full)
  · exact holds

theorem replyCompletion_keeps (holds : P s)
    (done : ∀ rest r later, s.mgmt.inbox = .completion false :: rest → s.mgmt.inTransmission = r :: later →
      P (s.setMgmt { s.mgmt with inbox := rest, inTransmission := later, unanswered := s.mgmt.unanswered - 1 }))
    (void : ∀ v rest, s.mgmt.inbox = .completion v :: rest → (v = true ∨ s.mgmt.inTransmission = []) →
      P (s.setMgmt { s.mgmt with inbox := rest })) : P (replyCompletion s) := by
  unfold replyCompletion
  split
  · next v rest reported =>
    cases v with
    | true => exact void true rest reported (.inl rfl)
    | false =>
      cases sent : s.mgmt.inTransmission with
      | nil =>
        simp only [sent]
        simpa only [sent] using void false rest reported (.inr sent)
      | cons r later =>
        simp only [sent]
        exact done rest r later reported sent
  · exact holds

/-- A link loss at the Management Engine gives its frames up and clears its requests and replies (R170). -/
theorem linkLossManagement_keeps (holds : P s)
    (taken : ∀ rest t, s.mgmt.inbox = .linkLoss :: rest →
      t = giveUpFrames .reply (s.setMgmt { s.mgmt with inbox := rest }) →
      P (t.setMgmt { t.mgmt with
        requests := [], exec := .idle, replies := [], inTransmission := [], deferred := none, unanswered := 0 })) :
    P (linkLossManagement s) := by
  unfold linkLossManagement
  split
  · next rest reported => exact taken rest _ reported rfl
  · exact holds

theorem linkLossDelivery_keeps (holds : P s)
    (idle : ∀ rest, s.delivery.inbox = .linkLoss :: rest → s.delivery.drain = none →
      P (giveUpFrames .delivery (s.setDelivery { s.delivery with inbox := rest })))
    (broken : ∀ rest d, s.delivery.inbox = .linkLoss :: rest → s.delivery.drain = some d →
      P (breakDrain d (giveUpFrames .delivery (s.setDelivery { s.delivery with inbox := rest })))) :
    P (linkLossDelivery s) := by
  unfold linkLossDelivery
  split
  · next rest reported =>
    dsimp only
    split
    · next none => exact idle rest reported none
    · next d drain => exact broken rest d reported drain
  · exact holds

theorem linkLossStream_keeps (holds : P s)
    (taken : ∀ rest t, s.stream.inbox = .linkLoss :: rest →
      t = giveUpFrames .stream (s.setStream { s.stream with inbox := rest }) →
      P (t.setStream { t.stream with
        queue := [], headMark := .offered
        gapCount := satAdd Config.count16Max t.stream.gapCount t.stream.queue.length })) :
    P (linkLossStream s) := by
  unfold linkLossStream
  split
  · next rest reported => exact taken rest _ reported rfl
  · exact holds

/-! ### What the execution of a request can do, said once: a refusal, or the request's effect and its reply -/

variable {q : Request}

theorem epochStart_keeps (refused : ∀ st, P (refuse st s))
    (started : s.timer.state = .stopped → P (finishHead .ok .nothing (startTimer s))) : P (epochStart q s) := by
  unfold epochStart
  split
  · exact refused _
  · next stopped => exact started stopped

theorem epochStop_keeps (refused : ∀ st, P (refuse st s))
    (stopped : s.timer.state = .running → P (finishHead .ok .nothing (stopTimer s))) : P (epochStop q s) := by
  unfold epochStop
  split
  · exact refused _
  · next running => exact stopped running

theorem arm_keeps (refused : ∀ st, P (refuse st s))
    (armed : ∀ u, q.unit = some u → s.capture.units[u].state = .idle → s.capture.configs[u].inUse = true →
      overlapsOther s u = false → P (finishHead .ok (.unit u)
        (putUnit u (armedRuntime s.capture.configs[u] s.capture.nextRecord) s))) : P (arm q s) := by
  unfold arm
  split
  · exact refused _
  · next u named =>
    split
    · exact refused _
    · next idle =>
      split
      · exact refused _
      · next inUse =>
        split
        · exact refused _
        · next apart => exact armed u named (by simpa using idle) (by simpa using inUse) (by simpa using apart)

theorem abort_keeps (refused : ∀ st, P (refuse st s))
    (cut : ∀ u, q.unit = some u → s.capture.units[u].state = .draining → P (finishHead .ok (.unit u) (cutDrain u s)))
    (aborted : ∀ u, q.unit = some u → s.capture.units[u].state ≠ .draining →
      P (finishHead .ok (.unit u) (abortUnit u s))) : P (abort q s) := by
  unfold abort
  split
  · exact refused _
  · next u named =>
    split
    · exact refused _
    · next draining => exact cut u named draining
    all_goals next other => exact aborted u named (by simp only [other, ne_eq, reduceCtorEq, not_false_eq_true])

theorem release_keeps (refused : ∀ st, P (refuse st s))
    (released : ∀ u, q.unit = some u → s.capture.units[u].state = .delivered →
      P (finishHead .ok (.unit u) (releaseUnit u s))) : P (release q s) := by
  unfold release
  split
  · exact refused _
  · next u named =>
    split
    · next delivered => exact released u named delivered
    · exact refused _

theorem replay_keeps (refused : ∀ st, P (refuse st s))
    (replayed : ∀ u, q.unit = some u → s.capture.units[u].state = .delivered →
      P (finishHead .ok (.unit u) (putFrozen u { s.capture.units[u] with state := .held } s))) : P (replay q s) := by
  unfold replay
  split
  · exact refused _
  · next u named =>
    split
    · next delivered => exact replayed u named delivered
    · exact refused _

theorem alertAck_keeps (refused : ∀ st, P (refuse st s))
    (acknowledged : s.alerts.state = .outstanding → s.alerts.outstanding = some q.operand →
      P (finishHead .ok (.acknowledged q.operand) (settleAlerts (s.setAlerts s.alerts.acknowledged)))) :
    P (alertAck q s) := by
  unfold alertAck
  split
  · next named => exact acknowledged named.1 named.2
  · exact refused _

theorem commit_keeps (refused : ∀ st, P (refuse st s))
    (swapped : ∀ c, s.conditions.commit = .none → s.timer.state = .stopped →
      P (finishHead .ok c (s.setConditions (swapBanks s.conditions))))
    (deferred : s.conditions.commit = .none → s.timer.state = .running → P (deferCommit q s)) : P (commit q s) := by
  unfold commit
  split
  · exact refused _
  · next quiet stopped => exact swapped _ quiet stopped
  · next quiet running => exact deferred quiet running

theorem discardEdits_keeps (refused : ∀ st, P (refuse st s))
    (discarded : ∀ c, s.conditions.commit = .none →
      P (finishHead .ok c (s.setConditions { s.conditions with edit := s.conditions.live }))) :
    P (discardEdits q s) := by
  unfold discardEdits
  split
  · exact refused _
  · next quiet => exact discarded _ quiet

theorem fire_keeps (refused : ∀ st, P (refuse st s))
    (fired : ∀ t l c, finOf 8 q.operand.toNat = some t → s.timer.lastClosed = some l →
      P (finishHead .ok c (putTrigger t (s.conditions.triggers[t].countFire l) s)))
    (sent : ∀ t l u, finOf 8 q.operand.toNat = some t → s.timer.lastClosed = some l →
      P (forceFire t u l (putTrigger t (s.conditions.triggers[t].countFire l) s))) : P (fire q s) := by
  unfold fire
  split
  · exact refused _
  · next t named =>
    split
    · exact refused _
    · next l closed =>
      dsimp only
      split
      · exact fired t l _ named closed
      · next u _ => exact sent t l u named closed

theorem answerRead_keeps (answered : ∀ st c, P (finishHead st c s)) (table : TableName) :
    P (answerRead q table s) := by
  unfold answerRead
  split
  · exact answered _ _
  · exact answered _ _

theorem read_keeps (answered : ∀ st c, P (finishHead st c s)) : P (read q s) := by
  unfold read
  split
  · exact answered _ _
  · exact answerRead_keeps P answered _

theorem readChannelRuntime_keeps (answered : ∀ st c, P (finishHead st c s))
    (cleared : ∀ ch st c, P (clearPeaks ch (finishHead st c s))) : P (readChannelRuntime q s) := by
  unfold readChannelRuntime
  dsimp only
  split
  · exact answerRead_keeps P answered _
  · next ch _ =>
    split
    · exact answerRead_keeps (fun t => P (clearPeaks ch t)) (cleared ch) _
    · exact answerRead_keeps P answered _

theorem write_keeps (refused : ∀ st, P (refuse st s)) : P (write q s) := by
  unfold write
  split <;> exact refused _

theorem writeControl_keeps (refused : ∀ st, P (refuse st s))
    (written : ∀ r c, controlOf q.payload = some r →
      ¬(s.timer.state = .running ∧ r.period ≠ s.mgmt.control.period) → P (finishHead .ok c (applyControl r s))) :
    P (writeControl q s) := by
  unfold writeControl
  split
  · exact refused _
  · split
    · exact refused _
    · next r legal =>
      split
      · exact refused _
      · next free => exact written r _ legal free

theorem writeChannel_keeps (refused : ∀ st, P (refuse st s))
    (written : ∀ ch e c, has (protectedSet s) ch = false → P (finishHead .ok c (applyChannel ch e s))) :
    P (writeChannel q s) := by
  unfold writeChannel
  split
  · exact refused _
  · next ch _ =>
    split
    · exact refused _
    · next e _ =>
      split
      · exact refused _
      · next free => exact written ch e _ (by simpa using free)

theorem writeBanked_keeps {α : Type} {n : Nat} {table : TableName} {decode : List Byte → Option α}
    {put : Fin n → α → Bank → Bank} (refused : ∀ st, P (refuse st s))
    (written : ∀ b c, s.conditions.commit = .none → P (finishHead .ok c (setEdit b s))) :
    P (writeBanked n table decode put q s) := by
  unfold writeBanked
  split
  · exact refused _
  · split
    · exact refused _
    · split
      · exact refused _
      · next quiet => exact written _ _ quiet

theorem writeUnit_keeps (refused : ∀ st, P (refuse st s))
    (written : ∀ u cfg c, s.capture.units[u].state = .idle →
      P (finishHead .ok c (s.setCapture { s.capture with configs := Table.put s.capture.configs u cfg }))) :
    P (writeUnit q s) := by
  unfold writeUnit
  split
  · exact refused _
  · next u _ =>
    split
    · exact refused _
    · next cfg _ =>
      split
      · next idle => exact written u cfg _ idle
      · exact refused _

/-! ### No request but a WRITE of CONTROL changes the control record -/

@[simp] theorem epochStart_control (q : Request) (s : State) : (epochStart q s).mgmt.control = s.mgmt.control :=
  epochStart_keeps (fun t => t.mgmt.control = s.mgmt.control) (by simp) (by simp)

@[simp] theorem epochStop_control (q : Request) (s : State) : (epochStop q s).mgmt.control = s.mgmt.control :=
  epochStop_keeps (fun t => t.mgmt.control = s.mgmt.control) (by simp) (by simp)

@[simp] theorem arm_control (q : Request) (s : State) : (arm q s).mgmt.control = s.mgmt.control :=
  arm_keeps (fun t => t.mgmt.control = s.mgmt.control) (by simp) (by simp)

@[simp] theorem abort_control (q : Request) (s : State) : (abort q s).mgmt.control = s.mgmt.control :=
  abort_keeps (fun t => t.mgmt.control = s.mgmt.control) (by simp) (by simp) (by simp)

@[simp] theorem release_control (q : Request) (s : State) : (release q s).mgmt.control = s.mgmt.control :=
  release_keeps (fun t => t.mgmt.control = s.mgmt.control) (by simp) (by simp)

@[simp] theorem replay_control (q : Request) (s : State) : (replay q s).mgmt.control = s.mgmt.control :=
  replay_keeps (fun t => t.mgmt.control = s.mgmt.control) (by simp) (by simp)

@[simp] theorem alertAck_control (q : Request) (s : State) : (alertAck q s).mgmt.control = s.mgmt.control :=
  alertAck_keeps (fun t => t.mgmt.control = s.mgmt.control) (by simp) (by simp)

@[simp] theorem commit_control (q : Request) (s : State) : (commit q s).mgmt.control = s.mgmt.control :=
  commit_keeps (fun t => t.mgmt.control = s.mgmt.control) (by simp) (by simp) (by simp [deferCommit])

@[simp] theorem discardEdits_control (q : Request) (s : State) : (discardEdits q s).mgmt.control = s.mgmt.control :=
  discardEdits_keeps (fun t => t.mgmt.control = s.mgmt.control) (by simp) (by simp)

@[simp] theorem fire_control (q : Request) (s : State) : (fire q s).mgmt.control = s.mgmt.control :=
  fire_keeps (fun t => t.mgmt.control = s.mgmt.control) (by simp) (by simp) (by simp)

@[simp] theorem read_control (q : Request) (s : State) : (read q s).mgmt.control = s.mgmt.control :=
  read_keeps (fun t => t.mgmt.control = s.mgmt.control) (by simp)

@[simp] theorem readChannelRuntime_control (q : Request) (s : State) : (readChannelRuntime q s).mgmt.control = s.mgmt.control :=
  readChannelRuntime_keeps (fun t => t.mgmt.control = s.mgmt.control) (by simp) (by simp)

@[simp] theorem write_control (q : Request) (s : State) : (write q s).mgmt.control = s.mgmt.control :=
  write_keeps (fun t => t.mgmt.control = s.mgmt.control) (by simp)

@[simp] theorem writeChannel_control (q : Request) (s : State) : (writeChannel q s).mgmt.control = s.mgmt.control :=
  writeChannel_keeps (fun t => t.mgmt.control = s.mgmt.control) (by simp) (by simp)

@[simp] theorem writeLevel_control (q : Request) (s : State) : (writeLevel q s).mgmt.control = s.mgmt.control :=
  writeBanked_keeps (fun t => t.mgmt.control = s.mgmt.control) (by simp) (by simp)

@[simp] theorem writeCondition_control (q : Request) (s : State) : (writeCondition q s).mgmt.control = s.mgmt.control :=
  writeBanked_keeps (fun t => t.mgmt.control = s.mgmt.control) (by simp) (by simp)

@[simp] theorem writeTrigger_control (q : Request) (s : State) : (writeTrigger q s).mgmt.control = s.mgmt.control :=
  writeBanked_keeps (fun t => t.mgmt.control = s.mgmt.control) (by simp) (by simp)

@[simp] theorem writeUnit_control (q : Request) (s : State) : (writeUnit q s).mgmt.control = s.mgmt.control :=
  writeUnit_keeps (fun t => t.mgmt.control = s.mgmt.control) (by simp) (by simp)

@[simp] theorem status_control (q : Request) (s : State) : (status q s).mgmt.control = s.mgmt.control := by
  simp [status]

@[simp] theorem unknownKind_control (q : Request) (s : State) : (unknownKind q s).mgmt.control = s.mgmt.control := by
  simp [unknownKind]

@[simp] theorem resetRequest_control (q : Request) (s : State) : (resetRequest q s).mgmt.control = s.mgmt.control := by
  simp [resetRequest]

@[simp] theorem requestArrival_control (s : State) : (requestArrival s).mgmt.control = s.mgmt.control :=
  requestArrival_keeps (fun t => t.mgmt.control = s.mgmt.control) rfl (by simp) (by simp)

@[simp] theorem replyCompletion_control (s : State) : (replyCompletion s).mgmt.control = s.mgmt.control :=
  replyCompletion_keeps (fun t => t.mgmt.control = s.mgmt.control) rfl (by simp) (by simp)

@[simp] theorem resetConditions_control (s : State) : (resetConditions s).mgmt.control = s.mgmt.control := by
  simp [resetConditions]

end Sys2Proof.Machine
end

section
/-! The link stays sound (R144 to R151): what each operation on the Link Controller does to `LinkController.Sound`. -/

namespace Sys2Proof.Machine

/-- The link of the part is sound. -/
abbrev LinkSound (s : State) : Prop := s.link.Sound

theorem LinkSound.congr {s t : State} (sound : LinkSound s) (same : t.link = s.link) : LinkSound t := by
  rw [LinkSound, same]
  exact sound

theorem replyOffer_source {s : State} {src : Source} {f : UpFrame} (offered : replyOffer s = some (src, f)) :
    src = .reply ∧ ∃ r rest, f = .reply r ∧ s.mgmt.replies = r :: rest := by
  unfold replyOffer at offered
  split at offered
  · cases offered
  · obtain ⟨r, head, pair⟩ := Option.map_eq_some_iff.mp offered
    obtain ⟨rest, queue⟩ := List.head?_eq_some_iff.mp head
    cases pair
    exact ⟨rfl, r, rest, rfl, queue⟩

theorem alertOffer_source {s : State} {src : Source} {f : UpFrame} (offered : alertOffer s = some (src, f)) :
    src = .alert ∧ (∃ a, f = .alert a) ∧ (s.alerts.offer = .newAlert .offered ∨ s.alerts.offer = .repeatAlert .offered) := by
  unfold alertOffer at offered
  split at offered
  · next new => cases offered; exact ⟨rfl, ⟨_, rfl⟩, .inl new⟩
  · next again => cases offered; exact ⟨rfl, ⟨_, rfl⟩, .inr again⟩
  · cases offered

theorem captureOffer_source {s : State} {src : Source} {f : UpFrame} (offered : captureOffer s = some (src, f)) :
    src = .delivery ∧ ∃ d, s.delivery.drain = some d ∧ d.mark = .offered ∧ endLost d s.delivery.inbox = false ∧
      f = .capture d.frame := by
  unfold captureOffer at offered
  split at offered
  · next d drain =>
    split at offered
    · next stands => cases offered; exact ⟨rfl, d, drain, stands.1, stands.2, rfl⟩
    · cases offered
  · cases offered

theorem streamOffer_source {s : State} {src : Source} {f : UpFrame} (offered : streamOffer s = some (src, f)) :
    src = .stream ∧ ∃ g rest, f = .stream g ∧ s.stream.queue = g :: rest := by
  unfold streamOffer at offered
  split at offered
  · cases offered
  · split at offered
    · obtain ⟨g, head, pair⟩ := Option.map_eq_some_iff.mp offered
      obtain ⟨rest, queue⟩ := List.head?_eq_some_iff.mp head
      cases pair
      exact ⟨rfl, g, rest, rfl, queue⟩
    · cases offered

/-- Table 10-3: the frame the arbiter starts is of the source it is offered by. -/
theorem readyFrame_source {s : State} {src : Source} {f : UpFrame} (ready : readyFrame s = some (src, f)) :
    f.source = src := by
  obtain reply | ⟨-, alert⟩ | ⟨-, -, capture⟩ | ⟨-, -, -, stream⟩ := readyFrame_cases ready
  · obtain ⟨rfl, r, -, rfl, -⟩ := replyOffer_source reply
    rfl
  · obtain ⟨rfl, ⟨a, rfl⟩, -⟩ := alertOffer_source alert
    rfl
  · obtain ⟨rfl, d, -, -, -, rfl⟩ := captureOffer_source capture
    rfl
  · obtain ⟨rfl, g, -, rfl, -⟩ := streamOffer_source stream
    rfl

@[simp] theorem started_link (src : Source) (f : UpFrame) (s : State) :
    (started src f s).link = { s.link with
      credit := s.link.credit - 1, tx := some { frame := f, source := src, void := false } } := rfl

/-- The transmitter may hold any frame of its own source while the link is UP. -/
theorem LinkController.Sound.of_up {l : LinkController} (up : l.state = .up) (credit : l.credit ≤ Config.creditMax)
    (train : l.trainRun = 0) (bad : l.badRun < Config.badToDown) (tx : ∀ t, l.tx = some t → t.frame.source = t.source) :
    l.Sound := by
  refine ⟨credit, ?_, ?_, fun _ => ⟨train, bad⟩, tx⟩ <;> simp [up]

theorem arbitrate_linkSound {s : State} (sound : s.link.Sound) : (arbitrate s).link.Sound := by
  obtain wait | ⟨src, f, can, ready, start⟩ := arbitrate_cases s
  · rwa [wait]
  · obtain ⟨up, -, -⟩ := (canStart_iff s).mp can
    obtain ⟨credit, -, -, whenUp, -⟩ := sound
    obtain ⟨train, bad⟩ := whenUp up
    rw [start]
    refine .of_up up ((Nat.sub_le _ _).trans credit) train bad fun t new => ?_
    cases new
    exact readyFrame_source ready

theorem giveUp_linkSound {l : LinkController} (src : Source) (sound : l.Sound) : (l.giveUp src).Sound := by
  have kept : ∀ t, (l.giveUp src).tx = some t → ∃ t', l.tx = some t' ∧ t.frame = t'.frame ∧ t.source = t'.source := by
    intro t held
    obtain ⟨t', before, rfl⟩ := Option.map_eq_some_iff.mp held
    refine ⟨t', before, ?_⟩
    split <;> exact ⟨rfl, rfl⟩
  obtain ⟨credit, down, training, up, tx⟩ := sound
  refine ⟨credit, fun isDown => ?_, fun isTraining => ?_, up, fun t held => ?_⟩
  · obtain ⟨trainRun, badRun, noCredit, idle⟩ := down isDown
    exact ⟨trainRun, badRun, noCredit, by simp [LinkController.giveUp, idle]⟩
  · obtain ⟨trainRun, badRun, noCredit, t, busy, source⟩ := training isTraining
    refine ⟨trainRun, badRun, noCredit, if t.source = src then { t with void := true } else t, ?_, ?_⟩
    · simp only [LinkController.giveUp, busy, Option.map_some]
    · split <;> exact source
  · obtain ⟨t', before, frame, source⟩ := kept t held
    rw [frame, source]
    exact tx t' before

theorem giveUpFrames_linkSound {s : State} (src : Source) (sound : s.link.Sound) : (giveUpFrames src s).link.Sound := by
  rw [giveUpFrames_link]
  exact giveUp_linkSound src sound

/-- In TRAINING with the transmitter IDLE a TRAIN frame starts (R147). -/
theorem startTrain_idle {s : State} (training : s.link.state = .training) (idle : s.link.tx = none) :
    startTrain s = s.setLink { s.link with
      tx := some { frame := .train s.link.trainRun, source := .training, void := false } } :=
  if_pos ⟨training, idle⟩

/-- A link in TRAINING whose transmitter has just fallen IDLE is sound again with the next TRAIN frame. -/
theorem startTrain_linkSound {s : State} (training : s.link.state = .training) (idle : s.link.tx = none)
    (train : s.link.trainRun < Config.trainsToUp) (bad : s.link.badRun = 0) (credit : s.link.credit = 0) :
    (startTrain s).link.Sound := by
  rw [startTrain_idle training idle]
  refine ⟨by simp [credit], by simp [training], fun _ => ⟨train, bad, credit, _, rfl, rfl⟩, by simp [training], ?_⟩
  rintro t ⟨⟩
  rfl

theorem enterDown_linkSound (s : State) : (enterDown s).link.Sound := by
  rw [enterDown_link]
  simp [LinkController.Sound]

theorem signalDetected_linkSound {s : State} (sound : s.link.Sound) : (signalDetected s).link.Sound := by
  unfold signalDetected
  split
  · next isDown =>
    obtain ⟨-, down, -⟩ := sound
    obtain ⟨train, bad, credit, idle⟩ := down isDown
    exact startTrain_linkSound rfl idle (by simp [train]) bad credit
  · exact sound
  · exact sound

theorem linkLossOfSignal_linkSound {s : State} (sound : s.link.Sound) : (linkLossOfSignal s).link.Sound :=
  linkLossOfSignal_keeps LinkSound sound (enterDown_linkSound s)

theorem breakTraining_linkSound {s : State} (training : s.link.state = .training) (sound : s.link.Sound) :
    (breakTraining s).link.Sound := by
  obtain ⟨credit, -, whenTraining, -, tx⟩ := sound
  obtain ⟨-, bad, noCredit, busy⟩ := whenTraining training
  exact ⟨credit, by simp [breakTraining, training], fun _ => ⟨Nat.zero_lt_succ _, bad, noCredit, busy⟩,
    by simp [breakTraining, training], tx⟩

theorem goodFrame_linkSound {s : State} (up : s.link.state = .up) (sound : s.link.Sound) : (goodFrame s).link.Sound := by
  obtain ⟨credit, -, -, whenUp, tx⟩ := sound
  exact .of_up up credit (whenUp up).1 (Nat.zero_lt_succ _) tx

theorem trainFrame_linkSound {s : State} (sound : s.link.Sound) : (trainFrame s).link.Sound := by
  unfold trainFrame
  split
  · exact sound
  · next training =>
    obtain ⟨credit, -, whenTraining, -, tx⟩ := sound
    obtain ⟨train, bad, noCredit, busy⟩ := whenTraining training
    split
    · exact .of_up rfl credit rfl (by simp [bad]) tx
    · next short =>
      exact ⟨credit, by simp [training], fun _ => ⟨Nat.lt_of_le_of_ne train short, bad, noCredit, busy⟩, by simp [training], tx⟩
  · next up => exact goodFrame_linkSound up sound

theorem badFrame_linkSound {s : State} (sound : s.link.Sound) : (badFrame s).link.Sound := by
  refine badFrame_keeps LinkSound sound (fun training => breakTraining_linkSound training sound) (enterDown_linkSound _)
    fun up short => ?_
  obtain ⟨credit, -, -, whenUp, tx⟩ := sound
  obtain ⟨train, bad⟩ := whenUp up
  exact .of_up up credit train (Nat.lt_of_le_of_ne bad short) tx

theorem grant_linkSound {s : State} (count : Byte) (up : s.link.state = .up) (sound : s.link.Sound) :
    (grant count s).link.Sound := by
  obtain ⟨-, -, -, whenUp, tx⟩ := sound
  obtain ⟨train, bad⟩ := whenUp up
  rw [grant_link]
  exact .of_up up (Nat.min_le_left _ _) train bad tx

/-- A transmission has ended: the next frame makes a link sound that was sound while it lasted. -/
theorem nextFrame_linkSound {s : State} {l : LinkController} {t : Transmission} (sound : l.Sound) (busy : l.tx = some t)
    (ended : s.link = { l with tx := none }) : (nextFrame s).link.Sound := by
  obtain ⟨credit, down, training, up, -⟩ := sound
  unfold nextFrame
  split
  · next isDown =>
    obtain ⟨-, -, -, idle⟩ := down (by simpa [ended] using isDown)
    simp [idle] at busy
  · next isTraining =>
    obtain ⟨trainRun, bad, noCredit, -⟩ := training (by simpa [ended] using isTraining)
    exact startTrain_linkSound isTraining (by rw [ended]) (by rwa [ended]) (by rwa [ended]) (by rwa [ended])
  · next isUp =>
    obtain ⟨trainRun, bad⟩ := up (by simpa [ended] using isUp)
    refine arbitrate_linkSound (.of_up isUp (by rwa [ended]) (by rwa [ended]) (by rwa [ended]) fun t held => ?_)
    simp [ended] at held

theorem transmissionCompletion_linkSound {s : State} (sourceFirst : Bool) (sound : s.link.Sound) :
    (transmissionCompletion sourceFirst s).link.Sound := by
  unfold transmissionCompletion
  split
  · exact sound
  · next t busy =>
    refine nextFrame_linkSound sound busy ?_
    split <;> simp

/-- Every command keeps the link sound. -/
theorem exec_linkSound (c : Instr) (s t : State) (sound : LinkSound s) (executed : exec c s = .next t) :
    LinkSound t := by
  have request (row : RequestRow) {act : Request → State → State} (frame : ∀ q, (act q s).link = s.link) :
      LinkSound (execHead row act s) :=
    execHead_keeps LinkSound sound (fun q _ _ _ => sound.congr (frame q)) fun _ => arbitrate_linkSound
  have event {u : State} (frame : u.link = s.link) : LinkSound (arbitrate u) := arbitrate_linkSound (sound.congr frame)
  cases c <;> cases executed
  case coldReset => simp [coldReset, State.reset, LinkController.cold, LinkController.Sound]
  case signalDetected => exact signalDetected_linkSound sound
  case linkLossOfSignal => exact linkLossOfSignal_linkSound sound
  case trainFrame => exact trainFrame_linkSound sound
  case requestFrame tag body =>
    exact requestFrame_keeps LinkSound tag body sound (fun training => breakTraining_linkSound training sound)
      (fun _ up => goodFrame_linkSound up sound) (badFrame_linkSound sound)
  case creditFrame count =>
    exact creditFrame_keeps LinkSound count sound (fun training => breakTraining_linkSound training sound)
      fun up => arbitrate_linkSound (grant_linkSound count up (goodFrame_linkSound up sound))
  case badFrame => exact badFrame_linkSound sound
  case transmissionCompletion first => exact transmissionCompletion_linkSound first sound
  case linkLossManagement =>
    exact linkLossManagement_keeps LinkSound sound fun _ _ _ lost => by
      rw [lost]
      exact giveUp_linkSound .reply sound
  case linkLossDelivery =>
    exact linkLossDelivery_keeps LinkSound sound (fun _ _ _ => giveUpFrames_linkSound .delivery sound)
      fun _ _ _ _ => LinkSound.congr (giveUpFrames_linkSound .delivery sound) (by simp)
  case linkLossStream =>
    exact linkLossStream_keeps LinkSound sound fun _ _ _ lost => by
      rw [lost]
      exact giveUp_linkSound .stream sound
  case linkLossAlert =>
    exact linkLossAlert_keeps LinkSound sound fun rest _ _ lost => arbitrate_linkSound
      (by simpa [lost] using giveUp_linkSound .alert sound)
  case softResetDeliveryEngine | softResetStreamForwarder | softResetAlertUnit =>
    exact takeReset_keeps LinkSound sound (giveUpFrames_linkSound _ sound)
  case softResetEpochTimer | softResetChannelProcessor | softResetConditionEngine | softResetCaptureController =>
    exact takeReset_keeps LinkSound sound (sound.congr (by simp))
  case periodExpiry | laneWord | alignmentMark | badSymbol | laneLossOfSignal | fireRequest | captureRecordTake |
      decimationReload | requestArrival | replyCompletion => exact sound.congr (by simp)
  case walk => exact walk_keeps LinkSound sound fun _ _ _ _ => event (by simp)
  case fireAnswer => exact fireAnswer_keeps LinkSound sound fun _ _ _ => event (by simp)
  case streamRecordTake => exact streamRecordTake_keeps LinkSound sound fun _ _ _ _ => event (by simp)
  case streamFrameCompletion => exact streamFrameCompletion_keeps LinkSound sound fun _ _ _ => event (by simp)
  case drainStart => exact drainStart_keeps LinkSound sound fun _ _ _ _ _ _ => event (by simp)
  case captureFrameCompletion => exact captureFrameCompletion_keeps LinkSound sound fun _ _ _ => event (by simp)
  case alertRaise src => exact alertRaise_keeps LinkSound src sound fun _ => event (by simp)
  case reAnnounceTimerExpiry => exact reAnnounceTimerExpiry_keeps LinkSound sound fun _ => event (by simp)
  case alertFrameCompletion =>
    exact alertFrameCompletion_keeps LinkSound sound (fun _ _ _ => sound) (fun _ _ _ _ => event (by simp))
      fun _ _ _ _ => event (by simp)
  case softResetDone => exact softResetDone_keeps LinkSound sound fun _ _ => event (by simp)
  case reset =>
    exact execHead_keeps LinkSound sound (fun _ _ _ _ => giveUpFrames_linkSound .reply sound) fun _ => arbitrate_linkSound
  case alertAck => exact ackHead_keeps LinkSound sound (request _ (by simp))
  all_goals exact request _ (by simp)

end Sys2Proof.Machine

namespace Sys2Proof.Proofs.LinkSound
open Sys2Proof.Machine

/-- Settles O53: every command keeps the link sound. -/
theorem stepKeepsLinkSound : Obligations.StepKeepsLinkSound := fun _ _ =>
  step_keeps (P := LinkSound) (fun _ _ => id) exec_linkSound

end Sys2Proof.Proofs.LinkSound
end

section
/-! Requests and replies stay sound (R163): what each operation on the Management Engine does to `RequestsSound`. -/

namespace Sys2Proof.Machine

theorem RequestsSound.congr {s t : State} (sound : RequestsSound s)
    (same : t.mgmt.unanswered = s.mgmt.unanswered ∧ t.mgmt.requests = s.mgmt.requests ∧
      t.mgmt.replies = s.mgmt.replies ∧ t.mgmt.inTransmission = s.mgmt.inTransmission ∧
      t.mgmt.deferred = s.mgmt.deferred ∧ t.mgmt.exec = s.mgmt.exec ∧ t.conditions.commit = s.conditions.commit) :
    RequestsSound t := by
  obtain ⟨unanswered, requests, replies, inTransmission, deferred, exec, commit⟩ := same
  rw [RequestsSound, unanswered, requests, replies, inTransmission, deferred, exec, commit]
  exact sound

/-- With no commit pending no reply is deferred. -/
theorem RequestsSound.deferred_eq_none {s : State} (sound : RequestsSound s) (quiet : s.conditions.commit = .none) :
    s.mgmt.deferred = none := by
  obtain ⟨-, -, onlyPending, -⟩ := sound
  by_contra held
  have pending := onlyPending held
  rw [quiet] at pending
  cases pending

/-- R162: a reply that starts moves from the reply queue to those in transmission. -/
theorem markStarted_requestsSound {s : State} (src : Source) (sound : RequestsSound s) :
    RequestsSound (markStarted src s) := by
  cases src with
  | reply =>
    obtain ⟨counted, most, onlyPending, waiting⟩ := sound
    refine ⟨?_, most, onlyPending, waiting⟩
    cases queue : s.mgmt.replies <;> simp [markStarted, queue] at counted ⊢ <;> omega
  | training | delivery | stream => exact sound
  | alert =>
    unfold markStarted
    dsimp only
    split <;> exact sound

theorem arbitrate_requestsSound {s : State} (sound : RequestsSound s) : RequestsSound (arbitrate s) := by
  obtain wait | ⟨src, f, -, -, start⟩ := arbitrate_cases s
  · rwa [wait]
  · rw [start]
    exact markStarted_requestsSound src sound

/-- R161: the reply takes the place of its request in the count. -/
theorem finishHead_requestsSound {s : State} (st : Status) (c : ReplyContent) (sound : RequestsSound s) :
    RequestsSound (finishHead st c s) := by
  cases queue : s.mgmt.requests with
  | nil => rwa [finishHead_nil queue]
  | cons q rest =>
    obtain ⟨counted, most, onlyPending, -⟩ := sound
    rw [finishHead_cons queue]
    refine ⟨?_, most, onlyPending, fun busy => absurd rfl busy⟩
    simp [queue] at counted ⊢
    omega

/-- R127, R130: the deferred reply of the commit performed moves to the reply queue. -/
theorem swapPending_requestsSound {s : State} (e : Epoch) (sound : RequestsSound s) :
    RequestsSound (swapPending e s) := by
  obtain ⟨-, idle⟩ | ⟨-, -, ⟨empty, same⟩ | ⟨tag, held, moved⟩⟩ := swapPending_cases e s
  · rwa [idle]
  · obtain ⟨counted, most, -, waiting⟩ := sound
    rw [RequestsSound, same]
    exact ⟨counted, most, fun held => absurd empty held, waiting⟩
  · obtain ⟨counted, most, -, waiting⟩ := sound
    rw [RequestsSound, moved]
    refine ⟨?_, most, fun held => absurd rfl held, waiting⟩
    simp [held] at counted ⊢
    omega

/-- R132: with the commit cancelled its deferred reply is neither held nor counted. -/
theorem dropDeferred_requestsSound {s : State}
    (counted : s.mgmt.unanswered = s.mgmt.requests.length + s.mgmt.replies.length + s.mgmt.inTransmission.length
      + s.mgmt.deferred.toList.length)
    (most : s.mgmt.unanswered ≤ Config.unansweredMax) (waiting : s.mgmt.exec ≠ .idle → s.mgmt.requests ≠ []) :
    RequestsSound (dropDeferred s) := by
  unfold dropDeferred
  split
  · next empty => exact ⟨counted, most, fun held => absurd empty held, waiting⟩
  · next tag held =>
    refine ⟨?_, (Nat.sub_le _ _).trans most, fun held => absurd rfl held, waiting⟩
    simp [held] at counted ⊢
    omega

theorem resetTimer_requestsSound {s : State} (sound : RequestsSound s) : RequestsSound (resetTimer s) := by
  unfold resetTimer
  dsimp only
  split
  · obtain ⟨counted, most, -, waiting⟩ := sound
    exact dropDeferred_requestsSound (s := s.setConditions _) counted most waiting
  · exact sound

theorem resetConditions_requestsSound {s : State} (sound : RequestsSound s) : RequestsSound (resetConditions s) := by
  obtain ⟨counted, most, -, waiting⟩ := sound
  exact dropDeferred_requestsSound (s := (s.setConditions _).setCapture _) counted most waiting

/-- R126: the request of a commit that must wait becomes its deferred reply in the count. -/
theorem deferCommit_requestsSound {s : State} {q : Request} {rest : List Request} (idle : s.mgmt.exec = .idle)
    (queue : s.mgmt.requests = q :: rest) (quiet : s.conditions.commit = .none) (sound : RequestsSound s) :
    RequestsSound (deferCommit q s) := by
  have empty := sound.deferred_eq_none quiet
  obtain ⟨counted, most, -, -⟩ := sound
  rw [deferCommit_cons queue]
  refine ⟨?_, most, fun _ => rfl, fun busy => absurd idle busy⟩
  simp [queue, empty] at counted ⊢
  omega

/-- R69: the FIRE request that waits for its answer stays at the head. -/
theorem forceFire_requestsSound {s : State} {t : Fin 8} {u : Fin 4} {l : Epoch} (queue : s.mgmt.requests ≠ [])
    (sound : RequestsSound s) : RequestsSound (forceFire t u l s) := by
  obtain ⟨counted, most, onlyPending, -⟩ := sound
  refine ⟨?_, ?_, ?_, fun _ => ?_⟩ <;> simpa [forceFire]

/-- R168: the RESET request alone is left. -/
theorem resetRequest_requestsSound (q : Request) (s : State) : RequestsSound (resetRequest q s) := by
  refine ⟨?_, ?_, fun held => ?_, fun _ => ?_⟩ <;> simp [resetRequest] at *

theorem requestArrival_requestsSound {s : State} (sound : RequestsSound s) : RequestsSound (requestArrival s) := by
  refine requestArrival_keeps _ sound (fun r rest _ room => ?_) fun _ _ _ _ => sound
  obtain ⟨counted, -, onlyPending, -⟩ := sound
  refine ⟨?_, room, onlyPending, fun _ => by simp⟩
  simp [counted]
  omega

/-- R162: a completed reply is no longer counted. -/
theorem replyCompletion_requestsSound {s : State} (sound : RequestsSound s) : RequestsSound (replyCompletion s) := by
  refine replyCompletion_keeps _ sound (fun rest r later _ sent => ?_) fun _ _ _ _ => sound
  obtain ⟨counted, most, onlyPending, waiting⟩ := sound
  refine ⟨?_, (Nat.sub_le _ _).trans most, onlyPending, waiting⟩
  simp [sent] at counted ⊢
  omega

theorem walkRecord_requestsSound {s : State} (rec : EpochRecord) (sound : RequestsSound s) :
    RequestsSound (walkRecord rec s) := by
  unfold walkRecord
  dsimp only
  exact (swapPending_requestsSound rec.epoch sound).congr (by simp)

theorem stopTimer_requestsSound {s : State} (sound : RequestsSound s) : RequestsSound (stopTimer s) :=
  swapPending_requestsSound _ (sound.congr (by simp))

theorem completeFire_requestsSound {s : State} (a : FireAnswer) (sound : RequestsSound s) :
    RequestsSound (completeFire a s) := by
  unfold completeFire
  split
  · split
    · exact finishHead_requestsSound _ _ sound
    · exact sound
  · exact sound
  · exact sound

/-- Every command keeps the requests and replies sound. -/
theorem exec_requestsSound (c : Instr) (s t : State) (sound : RequestsSound s) (executed : exec c s = .next t) :
    RequestsSound t := by
  have answered {u : State} (st : Status) (r : ReplyContent) (same : RequestsSound u) : RequestsSound (finishHead st r u) :=
    finishHead_requestsSound st r same
  have refused (st : Status) : RequestsSound (refuse st s) := answered st _ sound
  have event {u : State} (same : RequestsSound u) : RequestsSound (arbitrate u) := arbitrate_requestsSound same
  have request (row : RequestRow) {act : Request → State → State} (acted : ∀ q, RequestsSound (act q s)) :
      RequestsSound (execHead row act s) :=
    execHead_keeps RequestsSound sound (fun q _ _ _ => acted q) fun _ => arbitrate_requestsSound
  have bad : RequestsSound (badFrame s) :=
    badFrame_keeps RequestsSound sound (fun _ => sound) (sound.congr (by simp)) fun _ _ => sound
  cases c <;> cases executed
  case coldReset => simp [coldReset, State.reset, ManagementEngine.cold, RequestsSound]
  case epochStart => exact request _ fun _ => epochStart_keeps _ refused fun _ => answered _ _ (sound.congr (by simp))
  case epochStop => exact request _ fun _ => epochStop_keeps _ refused fun _ => answered _ _ (stopTimer_requestsSound sound)
  case arm => exact request _ fun _ => arm_keeps _ refused fun _ _ _ _ _ => answered _ _ (sound.congr (by simp))
  case abort =>
    exact request _ fun _ => abort_keeps _ refused (fun _ _ _ => answered _ _ (sound.congr (by simp)))
      fun _ _ _ => answered _ _ (sound.congr (by simp))
  case release => exact request _ fun _ => release_keeps _ refused fun _ _ _ => answered _ _ (sound.congr (by simp))
  case replay => exact request _ fun _ => replay_keeps _ refused fun _ _ _ => answered _ _ (sound.congr (by simp))
  case alertAck =>
    exact ackHead_keeps _ sound (request _ fun _ =>
      alertAck_keeps _ refused fun _ _ => answered _ _ (sound.congr (by simp)))
  case commit =>
    exact execHead_keeps RequestsSound sound (harb := fun _ => event) fun q rest idle queue =>
      commit_keeps _ refused
        (fun _ quiet _ => answered _ _ (sound.congr (by simp [swapBanks, quiet])))
        fun quiet _ => deferCommit_requestsSound idle queue quiet sound
  case discardEdits => exact request _ fun _ => discardEdits_keeps _ refused fun _ _ => answered _ _ (sound.congr (by simp))
  case fire =>
    exact execHead_keeps RequestsSound sound (harb := fun _ => event) fun q rest _ queue =>
      fire_keeps _ refused (fun _ _ _ _ _ => answered _ _ (sound.congr (by simp)))
        fun _ _ _ _ _ => forceFire_requestsSound (by simp [queue]) (sound.congr (by simp))
  case read => exact request _ fun _ => read_keeps _ fun st r => answered st r sound
  case readChannelRuntime =>
    exact request _ fun _ => readChannelRuntime_keeps _ (fun st r => answered st r sound)
      fun _ st r => (answered st r sound).congr (by simp)
  case write => exact request _ fun _ => write_keeps _ refused
  case writeControl => exact request _ fun _ => writeControl_keeps _ refused fun _ _ _ _ => answered _ _ (sound.congr (by simp))
  case writeChannel => exact request _ fun _ => writeChannel_keeps _ refused fun _ _ _ _ => answered _ _ (sound.congr (by simp))
  case writeLevel | writeCondition | writeTrigger =>
    exact request _ fun _ => writeBanked_keeps _ refused fun _ _ _ => answered _ _ (sound.congr (by simp [setEdit]))
  case writeUnit => exact request _ fun _ => writeUnit_keeps _ refused fun _ _ _ _ => answered _ _ (sound.congr (by simp))
  case status => exact request _ fun _ => answered _ _ sound
  case unknownKind => exact request _ fun _ => refused _
  case reset => exact request _ fun q => resetRequest_requestsSound q s
  case requestArrival => exact requestArrival_requestsSound sound
  case replyCompletion => exact replyCompletion_requestsSound sound
  case linkLossManagement => exact linkLossManagement_keeps _ sound fun _ _ _ _ => by simp [RequestsSound]
  case walk =>
    exact walk_keeps _ sound fun o _ _ _ => event (walkRecord_requestsSound o.record (sound.congr (by simp)))
  case fireAnswer =>
    exact fireAnswer_keeps _ sound fun a _ _ => event (completeFire_requestsSound a (sound.congr (by simp)))
  case softResetEpochTimer => exact takeReset_keeps _ sound (resetTimer_requestsSound sound)
  case softResetConditionEngine => exact takeReset_keeps _ sound (resetConditions_requestsSound sound)
  case softResetChannelProcessor | softResetCaptureController | softResetDeliveryEngine | softResetStreamForwarder |
      softResetAlertUnit => exact takeReset_keeps _ sound (sound.congr (by simp))
  case softResetDone => exact softResetDone_keeps _ sound fun _ _ => event (answered _ _ sound)
  case streamRecordTake => exact streamRecordTake_keeps _ sound fun _ _ _ _ => event (sound.congr (by simp))
  case streamFrameCompletion => exact streamFrameCompletion_keeps _ sound fun _ _ _ => event (sound.congr (by simp))
  case drainStart => exact drainStart_keeps _ sound fun _ _ _ _ _ _ => event (sound.congr (by simp))
  case captureFrameCompletion => exact captureFrameCompletion_keeps _ sound fun _ _ _ => event (sound.congr (by simp))
  case alertRaise src => exact alertRaise_keeps _ src sound fun _ => event (sound.congr (by simp))
  case reAnnounceTimerExpiry => exact reAnnounceTimerExpiry_keeps _ sound fun _ => event (sound.congr (by simp))
  case alertFrameCompletion =>
    exact alertFrameCompletion_keeps _ sound (fun _ _ _ => sound) (fun _ _ _ _ => event (sound.congr (by simp)))
      fun _ _ _ _ => event (sound.congr (by simp))
  case linkLossAlert =>
    exact linkLossAlert_keeps _ sound fun _ _ _ lost => event (sound.congr (by simp [lost]))
  case linkLossOfSignal => exact linkLossOfSignal_keeps _ sound (sound.congr (by simp))
  case badFrame => exact bad
  case requestFrame tag body =>
    exact requestFrame_keeps _ tag body sound (fun _ => sound) (fun _ _ => sound) bad
  case creditFrame count => exact creditFrame_keeps _ count sound (fun _ => sound) fun _ => event (sound.congr (by simp))
  case transmissionCompletion first =>
    exact transmissionCompletion_keeps _ first sound (fun t _ => sound.congr (by simp))
      (fun _ same => same.congr (by simp)) (fun _ same => same.congr (by simp)) (fun _ same => same.congr (by simp))
      fun _ => event
  case fireRequest => exact fireRequest_keeps _ sound fun _ _ _ => sound.congr (by simp)
  all_goals exact sound.congr (by simp)

end Sys2Proof.Machine

namespace Sys2Proof.Proofs.RequestsSound
open Sys2Proof.Machine

/-- Settles O52: every command keeps the requests and replies sound. -/
theorem stepKeepsRequestsSound : Obligations.StepKeepsRequestsSound := fun _ _ =>
  step_keeps (P := RequestsSound) (fun _ _ => id) exec_requestsSound

end Sys2Proof.Proofs.RequestsSound
end

section
/-! The Alert Unit stays sound (R135 to R142): all but what the offer rule gives holds of the unit by itself, and the
offer rule then makes it sound. -/

namespace Sys2Proof.Machine

/-- What `AlertUnit.Sound` says but for the offer rule of R137 and R141 (`AlertUnit.sound_iff`). -/
def AlertUnit.Consistent (a : AlertUnit) : Prop :=
  (a.state = .quiet ↔ a.outstanding = none) ∧
  (a.state = .quiet → a.reported = 0 ∧ a.timerRunning = false ∧ a.repeatCount = 0) ∧
  (a.timerRunning = true → a.offer = .none) ∧
  (∀ m, a.offer = .newAlert m → a.state = .quiet) ∧
  (a.offer = .repeatAlert .offered → a.state = .outstanding) ∧
  (a.offer = .newAlert .inTransmission → a.reRaised &&& ~~~ a.sent = 0 ∧ a.sent &&& ~~~ a.pending = 0) ∧
  (a.offer ≠ .newAlert .inTransmission → a.sent = 0 ∧ a.reRaised = 0)

theorem AlertUnit.Consistent.congr {a b : AlertUnit} (consistent : a.Consistent)
    (same : b.pending = a.pending ∧ b.reported = a.reported ∧ b.state = a.state ∧ b.outstanding = a.outstanding ∧
      b.repeatCount = a.repeatCount ∧ b.timerRunning = a.timerRunning ∧ b.offer = a.offer ∧ b.sent = a.sent ∧
      b.reRaised = a.reRaised) : b.Consistent := by
  obtain ⟨pending, reported, state, outstanding, repeatCount, timerRunning, offer, sent, reRaised⟩ := same
  rw [AlertUnit.Consistent, pending, reported, state, outstanding, repeatCount, timerRunning, offer, sent, reRaised]
  exact consistent

theorem AlertUnit.sound_iff (enable : AlertSet) (a : AlertUnit) :
    a.Sound enable ↔ a.Consistent ∧ (a.state = .quiet → a.offer = .none → a.pending &&& enable = 0) ∧
      (a.offer = .newAlert .offered → a.pending &&& enable ≠ 0) := by
  simp only [AlertUnit.Sound, AlertUnit.Consistent, and_assoc]

theorem AlertUnit.Sound.consistent {enable : AlertSet} {a : AlertUnit} (sound : a.Sound enable) : a.Consistent :=
  ((AlertUnit.sound_iff enable a).mp sound).1

/-- R137, R141: the offer rule leaves no enabled pending source without an offer, and no NEW alert without one. -/
theorem AlertUnit.Consistent.settle_sound {a : AlertUnit} (enable : AlertSet) (consistent : a.Consistent) :
    (a.settle enable).Sound enable := by
  obtain ⟨named, quiet, timer, new, again, carried, empty⟩ := consistent
  rw [AlertUnit.settle_eq]
  split
  · next offers =>
    obtain ⟨isQuiet, noOffer, some⟩ := offers
    have nothingSent := empty (by simp [noOffer])
    refine ⟨named, quiet, ?_, fun _ _ => isQuiet, ?_, ?_, fun _ => nothingSent, ?_, fun _ => some⟩ <;>
      simp [quiet isQuiet]
  · next settled =>
    split
    · next withdraws =>
      obtain ⟨offered, none⟩ := withdraws
      have nothingSent := empty (by simp [offered])
      exact ⟨named, quiet, fun _ => rfl, nofun, nofun, nofun, fun _ => nothingSent, fun _ _ => none, nofun⟩
    · next stands =>
      refine ⟨named, quiet, timer, new, again, carried, empty, fun isQuiet noOffer => ?_, fun offered none => ?_⟩
      · by_contra some
        exact settled ⟨isQuiet, noOffer, some⟩
      · exact stands ⟨offered, none⟩

/-- R136: a raise joins the pending set, and the re-raised set only when it is carried. -/
theorem AlertUnit.Consistent.take {a : AlertUnit} (src : AlertSource) (consistent : a.Consistent) :
    (a.take src).Consistent := by
  obtain ⟨named, quiet, timer, new, again, carried, empty⟩ := consistent
  refine ⟨named, quiet, timer, new, again, fun inTransmission => ?_, fun other => ?_⟩
  · obtain ⟨reRaised, sent⟩ := carried inTransmission
    refine ⟨(eq_zero_iff_has _).mpr fun i => ?_, (eq_zero_iff_has _).mpr fun i => ?_⟩
    · have before := (eq_zero_iff_has _).mp reRaised i
      simp only [AlertUnit.take]
      split
      · next carries =>
        by_cases this : i = AlertSource.bit src
        · simp [this, carries.2]
        · simpa [AlertSource.set, this] using before
      · exact before
    · have before := (eq_zero_iff_has _).mp sent i
      simp only [AlertUnit.take, has_and, has_not, has_or] at before ⊢
      revert before
      cases has a.sent i <;> cases has a.pending i <;> simp
  · have other' : a.offer ≠ .newAlert .inTransmission := other
    simpa [AlertUnit.take, other'] using empty other'

/-- R138: the alert completed is OUTSTANDING, with nothing left of the NEW alert. -/
theorem AlertUnit.newCompleted_consistent (a : AlertUnit) : a.newCompleted.Consistent := by
  simp [AlertUnit.Consistent, AlertUnit.newCompleted]

theorem AlertUnit.Consistent.repeatCompleted {a : AlertUnit} (offer : a.offer = .repeatAlert .inTransmission)
    (consistent : a.Consistent) : a.repeatCompleted.Consistent := by
  obtain ⟨named, quiet, -, -, -, -, empty⟩ := consistent
  refine ⟨named, fun isQuiet => ?_, fun _ => rfl, nofun, nofun, nofun, fun _ => empty (by simp [offer])⟩
  have isQuiet' : a.state = .quiet := isQuiet
  simpa [AlertUnit.repeatCompleted, isQuiet'] using quiet isQuiet'

/-- R140: an acknowledged alert leaves QUIET, a REPEAT still OFFERED withdrawn. -/
theorem AlertUnit.Consistent.acknowledged {a : AlertUnit} (consistent : a.Consistent) :
    a.acknowledged.Consistent := by
  obtain ⟨-, -, -, -, -, carried, empty⟩ := consistent
  have kept : a.acknowledged.offer = .newAlert .inTransmission ↔ a.offer = .newAlert .inTransmission := by
    unfold AlertUnit.acknowledged
    dsimp only
    split <;> simp [*]
  refine ⟨by simp [AlertUnit.acknowledged], by simp [AlertUnit.acknowledged], nofun, fun _ _ => rfl, fun offered => ?_,
    fun inTransmission => carried (kept.mp inTransmission), fun other => empty fun inTransmission => other (kept.mpr inTransmission)⟩
  simp only [AlertUnit.acknowledged] at offered
  split at offered
  · cases offered
  · next other => exact absurd offered other

/-- R142: a link loss leaves QUIET. -/
theorem AlertUnit.Consistent.linkLoss {a : AlertUnit} (consistent : a.Consistent) : a.linkLoss.Consistent := by
  obtain ⟨named, quiet, timer, new, again, -, empty⟩ := consistent
  unfold AlertUnit.linkLoss
  split
  · next outstanding =>
    have nothingSent := empty fun inTransmission => by
      have isQuiet := new _ inTransmission
      rw [outstanding] at isQuiet
      cases isQuiet
    exact ⟨by simp, by simp, nofun, nofun, nofun, nofun, fun _ => nothingSent⟩
  · next isQuiet =>
    refine ⟨named, quiet, fun running => ?_, fun _ _ => isQuiet, ?_, ?_, fun _ => ⟨rfl, rfl⟩⟩
    · have stopped := (quiet isQuiet).2.1
      simp_all
    · cases a.offer <;> simp [offerAfterLoss]
    · cases a.offer <;> simp [offerAfterLoss]

/-- R139: the timer runs only while the alert is OUTSTANDING, and its expiry offers a REPEAT. -/
theorem AlertUnit.Sound.expired {enable : AlertSet} {a : AlertUnit} (n : Nat) (running : a.timerRunning = true)
    (sound : a.Sound enable) :
    AlertUnit.Sound enable { a with timerRunning := false, repeatCount := n, offer := .repeatAlert .offered } := by
  obtain ⟨named, quiet, timer, -, -, -, empty, -⟩ := sound
  have outstanding : a.state = .outstanding := by
    cases h : a.state with
    | quiet => simp [(quiet h).2.1] at running
    | outstanding => rfl
  have nothingSent := empty (by simp [timer running])
  refine ⟨named, ?_, nofun, nofun, fun _ => outstanding, nofun, fun _ => nothingSent, nofun, nofun⟩
  simp [outstanding]

/-- The Alert Unit is sound under the enable set of the control record. -/
abbrev AlertsSound (s : State) : Prop := s.alerts.Sound s.mgmt.control.alerts

/-- The fields of the Alert Unit that its soundness speaks of, and the enable set. -/
theorem AlertsSound.congr {s t : State} (sound : AlertsSound s)
    (same : t.alerts.pending = s.alerts.pending ∧ t.alerts.reported = s.alerts.reported ∧
      t.alerts.state = s.alerts.state ∧ t.alerts.outstanding = s.alerts.outstanding ∧
      t.alerts.repeatCount = s.alerts.repeatCount ∧ t.alerts.timerRunning = s.alerts.timerRunning ∧
      t.alerts.offer = s.alerts.offer ∧ t.alerts.sent = s.alerts.sent ∧ t.alerts.reRaised = s.alerts.reRaised ∧
      t.mgmt.control.alerts = s.mgmt.control.alerts) : AlertsSound t := by
  obtain ⟨pending, reported, state, outstanding, repeatCount, timerRunning, offer, sent, reRaised, enable⟩ := same
  rw [AlertsSound, AlertUnit.Sound, pending, reported, state, outstanding, repeatCount, timerRunning, offer, sent, reRaised,
    enable]
  exact sound

theorem settleAlerts_alertsSound {s : State} (consistent : s.alerts.Consistent) : AlertsSound (settleAlerts s) :=
  consistent.settle_sound s.mgmt.control.alerts

/-- R137: a NEW alert started carries what is pending and enabled, and so is still pending. -/
theorem markStarted_alertsSound {s : State} (src : Source) (sound : AlertsSound s) : AlertsSound (markStarted src s) := by
  cases src with
  | alert =>
    have unchanged := sound
    obtain ⟨named, quiet, timer, new, -, -, empty, -, -⟩ := sound
    unfold markStarted
    dsimp only
    split
    · next m offer =>
      have isQuiet := new m offer
      refine ⟨named, quiet, fun running => ?_, fun _ _ => isQuiet, nofun, fun _ => ⟨by simp, ?_⟩, by simp, nofun, nofun⟩
      · have stopped := timer running
        rw [offer] at stopped
        cases stopped
      · refine (eq_zero_iff_has _).mpr fun i => ?_
        simp only [State.setAlerts_alerts, AlertUnit.reportable, has_and, has_not]
        cases has s.alerts.pending i <;> simp
    · next m offer =>
      have nothingSent := empty (by simp [offer])
      refine ⟨named, quiet, fun running => ?_, nofun, nofun, nofun, fun _ => nothingSent, nofun, nofun⟩
      have stopped := timer running
      rw [offer] at stopped
      cases stopped
    · exact unchanged
  | training | reply | delivery | stream => exact sound

theorem arbitrate_alertsSound {s : State} (sound : AlertsSound s) : AlertsSound (arbitrate s) := by
  obtain wait | ⟨src, f, -, -, start⟩ := arbitrate_cases s
  · rwa [wait]
  · rw [start]
    exact markStarted_alertsSound src sound

/-- R141: a new enable set is followed by the offer rule. -/
theorem applyControl_alertsSound {s : State} (r : ControlRecord) (sound : AlertsSound s) :
    AlertsSound (applyControl r s) := by
  unfold applyControl
  dsimp only
  refine settleAlerts_alertsSound ?_
  split
  · exact sound.consistent
  · exact sound.consistent.congr (by simp)

/-- R143: every item of the unit is cleared. -/
theorem resetAlerts_alertsSound (s : State) : AlertsSound (resetAlerts s) := by
  simp [AlertsSound, AlertUnit.Sound, resetAlerts]

/-- Every command keeps the Alert Unit sound. -/
theorem exec_alertsSound (c : Instr) (s t : State) (sound : AlertsSound s) (executed : exec c s = .next t) :
    AlertsSound t := by
  have event {u : State} (same : AlertsSound u) : AlertsSound (arbitrate u) := arbitrate_alertsSound same
  have settled {u : State} (consistent : u.alerts.Consistent) : AlertsSound (arbitrate (settleAlerts u)) :=
    event (settleAlerts_alertsSound consistent)
  have answered {u : State} (st : Status) (r : ReplyContent) (same : AlertsSound u) : AlertsSound (finishHead st r u) :=
    same.congr (by simp)
  have refused (st : Status) : AlertsSound (refuse st s) := answered st _ sound
  have request (row : RequestRow) {act : Request → State → State} (acted : ∀ q, AlertsSound (act q s)) :
      AlertsSound (execHead row act s) :=
    execHead_keeps AlertsSound sound (fun q _ _ _ => acted q) fun _ => arbitrate_alertsSound
  have bad : AlertsSound (badFrame s) :=
    badFrame_keeps AlertsSound sound (fun _ => sound) (sound.congr (by simp)) fun _ _ => sound
  cases c <;> cases executed
  case coldReset => simp [AlertsSound, coldReset, State.reset, AlertUnit.cold, AlertUnit.Sound]
  case alertRaise src => exact alertRaise_keeps _ src sound fun _ => settled (sound.consistent.take src)
  case alertFrameCompletion =>
    exact alertFrameCompletion_keeps _ sound (fun _ _ _ => sound)
      (fun _ _ _ _ => settled (AlertUnit.newCompleted_consistent _))
      fun _ _ _ offer => settled (.repeatCompleted offer sound.consistent)
  case reAnnounceTimerExpiry =>
    exact reAnnounceTimerExpiry_keeps _ sound fun running => event (sound.expired _ running)
  case linkLossAlert =>
    exact linkLossAlert_keeps _ sound fun _ t _ lost => settled (.linkLoss (by rw [lost]; exact sound.consistent))
  case alertAck =>
    exact ackHead_keeps _ sound (request _ fun _ => alertAck_keeps _ refused fun _ _ =>
      answered _ _ (settleAlerts_alertsSound sound.consistent.acknowledged))
  case writeControl =>
    exact request _ fun _ => writeControl_keeps _ refused fun r _ _ _ => answered _ _ (applyControl_alertsSound r sound)
  case softResetAlertUnit => exact takeReset_keeps _ sound (resetAlerts_alertsSound s)
  case softResetEpochTimer | softResetConditionEngine | softResetChannelProcessor | softResetCaptureController |
      softResetDeliveryEngine | softResetStreamForwarder => exact takeReset_keeps _ sound (sound.congr (by simp))
  case linkLossManagement => exact linkLossManagement_keeps _ sound fun _ _ _ lost => sound.congr (by simp [lost])
  case linkLossOfSignal => exact linkLossOfSignal_keeps _ sound (sound.congr (by simp))
  case badFrame => exact bad
  case requestFrame tag body =>
    exact requestFrame_keeps _ tag body sound (fun _ => sound) (fun _ _ => sound) bad
  case creditFrame count => exact creditFrame_keeps _ count sound (fun _ => sound) fun _ => event (sound.congr (by simp))
  case transmissionCompletion first =>
    exact transmissionCompletion_keeps _ first sound (fun t _ => sound.congr (by simp))
      (fun _ same => same.congr (by simp)) (fun _ same => same.congr (by simp)) (fun _ same => same.congr (by simp))
      fun _ => event
  case walk => exact walk_keeps _ sound fun _ _ _ _ => event (sound.congr (by simp))
  case fireAnswer => exact fireAnswer_keeps _ sound fun _ _ _ => event (sound.congr (by simp))
  case softResetDone => exact softResetDone_keeps _ sound fun _ _ => event (answered _ _ sound)
  case streamRecordTake => exact streamRecordTake_keeps _ sound fun _ _ _ _ => event (sound.congr (by simp))
  case streamFrameCompletion => exact streamFrameCompletion_keeps _ sound fun _ _ _ => event (sound.congr (by simp))
  case drainStart => exact drainStart_keeps _ sound fun _ _ _ _ _ _ => event (sound.congr (by simp))
  case captureFrameCompletion => exact captureFrameCompletion_keeps _ sound fun _ _ _ => event (sound.congr (by simp))
  case epochStart => exact request _ fun _ => epochStart_keeps _ refused fun _ => answered _ _ (sound.congr (by simp))
  case epochStop => exact request _ fun _ => epochStop_keeps _ refused fun _ => answered _ _ (sound.congr (by simp))
  case writeChannel =>
    exact request _ fun _ => writeChannel_keeps _ refused fun _ _ _ _ => answered _ _ (sound.congr (by simp))
  case read | readChannelRuntime | write | writeLevel | writeCondition |
      writeTrigger | writeUnit | commit | discardEdits | arm | abort | release | replay | fire | status | unknownKind |
      reset => exact request _ fun _ => sound.congr (by simp)
  case requestArrival => exact requestArrival_keeps _ sound (fun _ _ _ _ => sound) fun _ _ _ _ => sound.congr (by simp)
  all_goals exact sound.congr (by simp)

end Sys2Proof.Machine

namespace Sys2Proof.Proofs.AlertsSound
open Sys2Proof.Machine

/-- Settles O54: every command keeps the Alert Unit sound. -/
theorem stepKeepsAlertsSound : Obligations.StepKeepsAlertsSound := fun _ _ =>
  step_keeps (P := AlertsSound) (fun _ _ => id) exec_alertsSound

end Sys2Proof.Proofs.AlertsSound
end

section
/-! The stream queue stays within 16 frames of consecutive sequence numbers (R114, R118, R120). -/

namespace Sys2Proof.Machine

/-- R118: the frame queued last takes the next sequence number. -/
theorem consecutive_append {next : BitVec 16} {queue : List StreamFrame} {f : StreamFrame}
    (run : consecutive next queue) (last : f.sequence = next) : consecutive (next + 1) (queue ++ [f]) := by
  induction queue with
  | nil => exact ⟨by simp [last], trivial⟩
  | cons g rest ih =>
    obtain ⟨here, later⟩ := run
    refine ⟨?_, ih later⟩
    change g.sequence + BitVec.ofNat 16 ((rest ++ [f]).length + 1) = next + 1
    rw [List.length_append, List.length_singleton, BitVec.ofNat_add (rest.length + 1), ← BitVec.add_assoc, here]
    rfl

theorem consecutive_tail {next : BitVec 16} {queue : List StreamFrame} (run : consecutive next queue) :
    consecutive next queue.tail := by
  cases queue with
  | nil => trivial
  | cons f rest => exact run.2

/-- The stream of the part is sound. -/
abbrev StreamSound (s : State) : Prop := s.stream.Sound

theorem StreamSound.congr {s t : State} (sound : StreamSound s)
    (same : t.stream.queue = s.stream.queue ∧ t.stream.headMark = s.stream.headMark ∧
      t.stream.sequence = s.stream.sequence ∧ t.stream.gapCount = s.stream.gapCount) : StreamSound t := by
  obtain ⟨queue, headMark, sequence, gapCount⟩ := same
  rw [StreamSound, StreamForwarder.Sound, queue, headMark, sequence, gapCount]
  exact sound

/-- R120: only a frame that is there starts. -/
theorem arbitrate_streamSound {s : State} (sound : StreamSound s) : StreamSound (arbitrate s) := by
  obtain wait | ⟨src, f, -, ready, start⟩ := arbitrate_cases s
  · rwa [wait]
  · rw [start]
    cases src with
    | stream =>
      obtain ⟨most, run, -, gap⟩ := sound
      refine ⟨most, run, fun _ => ?_, gap⟩
      obtain reply | ⟨-, alert⟩ | ⟨-, -, capture⟩ | ⟨-, -, -, stream⟩ := readyFrame_cases ready
      · cases (replyOffer_source reply).1
      · cases (alertOffer_source alert).1
      · cases (captureOffer_source capture).1
      · obtain ⟨-, g, rest, -, queue⟩ := streamOffer_source stream
        simp [started, markStarted, queue]
    | alert =>
      refine sound.congr ?_
      simp only [started, markStarted]
      split <;> simp
    | training | reply | delivery => exact sound

/-- R118, R119: a frame joins a queue with room, and is lost and counted otherwise. -/
theorem queueFrame_streamSound {s : State} (e : Epoch) (values : List (Fin 16 × Option Value)) (sound : StreamSound s) :
    StreamSound (queueFrame e values s) := by
  obtain ⟨most, run, head, gap⟩ := sound
  unfold queueFrame
  dsimp only
  split
  · next room => exact ⟨by simpa using room, consecutive_append run rfl, fun _ => by simp, Nat.zero_le _⟩
  · exact ⟨most, run, head, satAdd_le _ _ _⟩

theorem streamRecord_streamSound {s : State} (rec : EpochRecord) (sound : StreamSound s) :
    StreamSound (streamRecord rec s) := by
  unfold streamRecord
  dsimp only
  split
  · exact queueFrame_streamSound rec.epoch _ (s := s.setStream _) sound
  · exact sound

/-- R120: the completed head leaves the queue, and the next frame is OFFERED. -/
theorem takeStreamCompletion_streamSound {s : State} (sound : StreamSound s) :
    StreamSound (takeStreamCompletion s) := by
  unfold takeStreamCompletion
  split
  · dsimp only
    split
    · exact sound
    · obtain ⟨most, run, -, gap⟩ := sound
      exact ⟨(by simp : s.stream.queue.tail.length ≤ s.stream.queue.length).trans most, consecutive_tail run, nofun, gap⟩
  · exact sound

/-- Every command keeps the stream sound. -/
theorem exec_streamSound (c : Instr) (s t : State) (sound : StreamSound s) (executed : exec c s = .next t) :
    StreamSound t := by
  have event {u : State} (same : StreamSound u) : StreamSound (arbitrate u) := arbitrate_streamSound same
  have answered {u : State} (st : Status) (r : ReplyContent) (same : StreamSound u) : StreamSound (finishHead st r u) :=
    same.congr (by simp)
  have refused (st : Status) : StreamSound (refuse st s) := answered st _ sound
  have request (row : RequestRow) {act : Request → State → State} (acted : ∀ q, StreamSound (act q s)) :
      StreamSound (execHead row act s) :=
    execHead_keeps StreamSound sound (fun q _ _ _ => acted q) fun _ => arbitrate_streamSound
  have bad : StreamSound (badFrame s) :=
    badFrame_keeps StreamSound sound (fun _ => sound) (sound.congr (by simp)) fun _ _ => sound
  cases c <;> cases executed
  case coldReset => simp [StreamSound, coldReset, State.reset, StreamForwarder.cold, StreamForwarder.Sound, consecutive]
  case streamRecordTake =>
    exact streamRecordTake_keeps _ sound fun o _ _ _ => event (streamRecord_streamSound o.record (sound.congr (by simp)))
  case decimationReload => exact decimationReload_keeps _ sound fun _ _ _ => sound
  case streamFrameCompletion =>
    exact streamFrameCompletion_keeps _ sound fun _ _ _ => event (takeStreamCompletion_streamSound sound)
  case linkLossStream =>
    exact linkLossStream_keeps _ sound fun _ _ _ _ => ⟨Nat.zero_le _, trivial, nofun, satAdd_le _ _ _⟩
  case softResetStreamForwarder =>
    exact takeReset_keeps _ sound ⟨Nat.zero_le _, trivial, nofun, Nat.zero_le _⟩
  case softResetEpochTimer | softResetConditionEngine | softResetChannelProcessor | softResetCaptureController |
      softResetDeliveryEngine | softResetAlertUnit => exact takeReset_keeps _ sound (sound.congr (by simp))
  case linkLossManagement => exact linkLossManagement_keeps _ sound fun _ _ _ lost => sound.congr (by simp [lost])
  case linkLossOfSignal => exact linkLossOfSignal_keeps _ sound (sound.congr (by simp))
  case badFrame => exact bad
  case requestFrame tag body =>
    exact requestFrame_keeps _ tag body sound (fun _ => sound) (fun _ _ => sound) bad
  case creditFrame count => exact creditFrame_keeps _ count sound (fun _ => sound) fun _ => event (sound.congr (by simp))
  case transmissionCompletion first =>
    exact transmissionCompletion_keeps _ first sound (fun t _ => sound.congr (by simp))
      (fun _ same => same.congr (by simp)) (fun _ => takeStreamCompletion_streamSound) (fun _ same => same.congr (by simp))
      fun _ => event
  case walk => exact walk_keeps _ sound fun _ _ _ _ => event (sound.congr (by simp))
  case fireAnswer => exact fireAnswer_keeps _ sound fun _ _ _ => event (sound.congr (by simp))
  case softResetDone => exact softResetDone_keeps _ sound fun _ _ => event (answered _ _ sound)
  case drainStart => exact drainStart_keeps _ sound fun _ _ _ _ _ _ => event (sound.congr (by simp))
  case captureFrameCompletion => exact captureFrameCompletion_keeps _ sound fun _ _ _ => event (sound.congr (by simp))
  case alertRaise src => exact alertRaise_keeps _ src sound fun _ => event (sound.congr (by simp))
  case reAnnounceTimerExpiry => exact reAnnounceTimerExpiry_keeps _ sound fun _ => event (sound.congr (by simp))
  case alertFrameCompletion =>
    exact alertFrameCompletion_keeps _ sound (fun _ _ _ => sound) (fun _ _ _ _ => event (sound.congr (by simp)))
      fun _ _ _ _ => event (sound.congr (by simp))
  case linkLossAlert => exact linkLossAlert_keeps _ sound fun _ _ _ lost => event (sound.congr (by simp [lost]))
  case alertAck => exact ackHead_keeps _ sound (request _ fun _ => sound.congr (by simp))
  case epochStart => exact request _ fun _ => epochStart_keeps _ refused fun _ => answered _ _ (sound.congr (by simp))
  case epochStop => exact request _ fun _ => epochStop_keeps _ refused fun _ => answered _ _ (sound.congr (by simp))
  case writeChannel =>
    exact request _ fun _ => writeChannel_keeps _ refused fun _ _ _ _ => answered _ _ (sound.congr (by simp))
  case writeControl =>
    exact request _ fun _ => writeControl_keeps _ refused fun _ _ _ _ => answered _ _ (sound.congr (by simp))
  case read | readChannelRuntime | write | writeLevel | writeCondition |
      writeTrigger | writeUnit | commit | discardEdits | arm | abort | release | replay | fire | status | unknownKind |
      reset => exact request _ fun _ => sound.congr (by simp)
  all_goals exact sound.congr (by simp)

end Sys2Proof.Machine

namespace Sys2Proof.Proofs.StreamSound
open Sys2Proof.Machine

/-- Settles O55: every command keeps the stream sound. -/
theorem stepKeepsStreamSound : Obligations.StepKeepsStreamSound := fun _ _ =>
  step_keeps (P := StreamSound) (fun _ _ => id) exec_streamSound

end Sys2Proof.Proofs.StreamSound
end

section
/-! The LIVE banks and the generation change only by a swap (R123, R127), and the entries a unit outside IDLE rests on do
not change (R22, R73, R74). -/

namespace Sys2Proof.Machine

/-- LIVE and the generation are as they were, or a swap has made EDIT LIVE. -/
def StayedOrSwapped (s t : State) : Prop :=
  (t.conditions.live = s.conditions.live ∧ t.conditions.generation = s.conditions.generation) ∨
  (t.conditions.live = s.conditions.edit ∧ t.conditions.edit = s.conditions.edit ∧
    t.conditions.generation = s.conditions.generation + 1 ∧ t.conditions.commit = .none)

theorem StayedOrSwapped.congr {s t u : State} (held : StayedOrSwapped s t)
    (same : u.conditions.live = t.conditions.live ∧ u.conditions.edit = t.conditions.edit ∧
      u.conditions.generation = t.conditions.generation ∧ u.conditions.commit = t.conditions.commit) :
    StayedOrSwapped s u := by
  obtain ⟨live, edit, generation, commit⟩ := same
  rw [StayedOrSwapped, live, edit, generation, commit]
  exact held

/-- R127: the swap that performs a commit. -/
theorem stayedOrSwapped_of_swapBanks {s t : State} (swapped : t.conditions = swapBanks s.conditions) :
    StayedOrSwapped s t := by
  rw [StayedOrSwapped, swapped]
  exact .inr ⟨rfl, rfl, rfl, rfl⟩

theorem swapPending_stayedOrSwapped {s u : State} (e : Epoch)
    (same : u.conditions.live = s.conditions.live ∧ u.conditions.edit = s.conditions.edit ∧
      u.conditions.generation = s.conditions.generation) : StayedOrSwapped s (swapPending e u) := by
  obtain ⟨live, edit, generation⟩ := same
  obtain ⟨-, idle⟩ | ⟨-, swapped, -⟩ := swapPending_cases e u
  · rw [idle]
    exact .inl ⟨live, generation⟩
  · right
    simp [swapped, swapBanks, edit, generation]

/-- Every command but a cold reset leaves LIVE and the generation, or is a swap. -/
theorem exec_stayedOrSwapped (c : Instr) (s t : State) (warm : c ≠ .coldReset) (executed : exec c s = .next t) :
    StayedOrSwapped s t := by
  have stayed {u : State} (same : u.conditions.live = s.conditions.live ∧
      u.conditions.generation = s.conditions.generation) : StayedOrSwapped s u := .inl same
  have here : StayedOrSwapped s s := .inl ⟨rfl, rfl⟩
  have event {u : State} (held : StayedOrSwapped s u) : StayedOrSwapped s (arbitrate u) := held.congr (by simp)
  have answered {u : State} (st : Status) (r : ReplyContent) (held : StayedOrSwapped s u) :
      StayedOrSwapped s (finishHead st r u) := held.congr (by simp)
  have refused (st : Status) : StayedOrSwapped s (refuse st s) := answered st _ here
  have request (row : RequestRow) {act : Request → State → State} (acted : ∀ q, StayedOrSwapped s (act q s)) :
      StayedOrSwapped s (execHead row act s) :=
    execHead_keeps (StayedOrSwapped s) here (fun q _ _ _ => acted q) fun _ => event
  cases c <;> cases executed
  case coldReset => exact absurd rfl warm
  case walk =>
    refine walk_keeps _ here fun o rest _ _ => event ?_
    exact (swapPending_stayedOrSwapped (u := s.setConditions { s.conditions with records := rest }) o.record.epoch
      ⟨rfl, rfl, rfl⟩).congr (by simp [walkRecord])
  case epochStop =>
    refine request _ fun _ => epochStop_keeps _ refused fun _ => answered _ _ ?_
    exact swapPending_stayedOrSwapped _ (by simp)
  case commit =>
    exact request _ fun _ => commit_keeps _ refused
      (fun _ _ _ => answered _ _ (stayedOrSwapped_of_swapBanks rfl)) fun _ _ => stayed (by simp [deferCommit])
  case discardEdits => exact request _ fun _ => discardEdits_keeps _ refused fun _ _ => answered _ _ (.inl ⟨rfl, rfl⟩)
  case epochStart => exact request _ fun _ => epochStart_keeps _ refused fun _ => answered _ _ (stayed (by simp))
  case writeChannel =>
    exact request _ fun _ => writeChannel_keeps _ refused fun _ _ _ _ => answered _ _ (stayed (by simp))
  case writeControl =>
    exact request _ fun _ => writeControl_keeps _ refused fun _ _ _ _ => answered _ _ (stayed (by simp))
  case writeLevel | writeCondition | writeTrigger =>
    exact request _ fun _ => writeBanked_keeps _ refused fun _ _ _ => answered _ _ (.inl ⟨rfl, rfl⟩)
  case alertAck => exact ackHead_keeps _ here (request _ fun _ => stayed (by simp))
  case fire | read | readChannelRuntime | write | writeUnit | arm | abort | release | replay | status | unknownKind |
      reset => exact request _ fun _ => stayed (by simp)
  case fireRequest => exact fireRequest_keeps _ here fun _ _ _ => stayed (by simp)
  case fireAnswer => exact fireAnswer_keeps _ here fun _ _ _ => stayed (by simp)
  case softResetConditionEngine => exact takeReset_keeps _ here (stayed (by simp [resetConditions]))
  case softResetEpochTimer | softResetChannelProcessor | softResetCaptureController | softResetDeliveryEngine |
      softResetStreamForwarder | softResetAlertUnit =>
    exact takeReset_keeps _ here (stayed (by simp))
  all_goals exact stayed (by simp)

/-- R21: a WRITE of CHANNEL replaces the one entry. -/
theorem applyChannel_table (ch : Fin 16) (e : ChannelEntry) (s : State) :
    (applyChannel ch e s).channels.table = Table.put s.channels.table ch e := by
  unfold applyChannel
  dsimp only
  split <;> simp [replaceChannel]

theorem resetTimer_table (s : State) : (resetTimer s).channels.table = s.channels.table := by
  unfold resetTimer
  dsimp only
  split <;> simp

theorem breakDrain_configs (d : Drain) (s : State) : (breakDrain d s).capture.configs = s.capture.configs := by
  unfold breakDrain
  split
  · simp
  · split <;> simp

/-- A unit's configuration and the entries of the channels it uses are as they were. -/
def EntriesKept (u : Fin 4) (s t : State) : Prop :=
  t.capture.configs[u] = s.capture.configs[u] ∧
  ∀ ch : Fin 16, (has s.capture.configs[u].mask ch = true ∨
      (s.capture.configs[u].postMode = .cycles ∧ s.capture.configs[u].reference = ch)) →
    t.channels.table[ch] = s.channels.table[ch]

theorem entriesKept_of_same (u : Fin 4) {s t : State} (same : t.capture.configs = s.capture.configs ∧
    t.channels.table = s.channels.table) : EntriesKept u s t := by
  obtain ⟨configs, table⟩ := same
  rw [EntriesKept, configs, table]
  exact ⟨rfl, fun _ _ => rfl⟩

theorem EntriesKept.congr {u : Fin 4} {s t v : State} (held : EntriesKept u s t)
    (same : v.capture.configs = t.capture.configs ∧ v.channels.table = t.channels.table) : EntriesKept u s v := by
  obtain ⟨configs, table⟩ := same
  rw [EntriesKept, configs, table]
  exact held

/-- R79: a channel in use by a unit outside IDLE is in the protected set. -/
theorem protectedSet_of_uses {s : State} {u : Fin 4} {ch : Fin 16} (busy : s.capture.units[u].state ≠ .idle)
    (used : has s.capture.configs[u].mask ch = true ∨
      (s.capture.configs[u].postMode = .cycles ∧ s.capture.configs[u].reference = ch)) :
    has (protectedSet s) ch = true := by
  simp only [protectedSet, has_ofFnLE, List.any_eq_true]
  refine ⟨u, List.mem_finRange u, ?_⟩
  have busy' : s.capture.units[u.val].state ≠ .idle := busy
  simpa [UnitConfig.uses, busy'] using used

/-- Every command but a cold reset leaves the entries a unit outside IDLE rests on. -/
theorem exec_entriesKept (c : Instr) (s t : State) (u : Fin 4) (warm : c ≠ .coldReset) (executed : exec c s = .next t)
    (busy : s.capture.units[u].state ≠ .idle) : EntriesKept u s t := by
  have kept {v : State} (same : v.capture.configs = s.capture.configs ∧ v.channels.table = s.channels.table) :
      EntriesKept u s v := entriesKept_of_same u same
  have here : EntriesKept u s s := kept ⟨rfl, rfl⟩
  have request (row : RequestRow) {act : Request → State → State} (acted : ∀ q, EntriesKept u s (act q s)) :
      EntriesKept u s (execHead row act s) :=
    execHead_keeps (EntriesKept u s) here (fun q _ _ _ => acted q) fun _ held =>
      held.congr (by simp)
  have refused (st : Status) : EntriesKept u s (refuse st s) := kept (by simp)
  cases c <;> cases executed
  case coldReset => exact absurd rfl warm
  case writeChannel =>
    refine request _ fun q => writeChannel_keeps _ refused fun ch e r free => ⟨by simp, fun other used => ?_⟩
    have apart : other ≠ ch := by
      rintro rfl
      simp [protectedSet_of_uses busy used] at free
    simp [applyChannel_table, apart]
  case writeUnit =>
    refine request _ fun q => writeUnit_keeps _ refused fun v cfg r idle => ⟨?_, fun other used => by simp⟩
    have apart : u ≠ v := by
      rintro rfl
      exact busy idle
    simp [apart]
  case alertAck => exact ackHead_keeps _ here (request _ fun _ => kept (by simp))
  case epochStart => exact request _ fun _ => epochStart_keeps _ refused fun _ => kept (by simp)
  case epochStop => exact request _ fun _ => epochStop_keeps _ refused fun _ => kept (by simp)
  case writeControl => exact request _ fun _ => writeControl_keeps _ refused fun _ _ _ _ => kept (by simp)
  case readChannelRuntime =>
    exact request _ fun _ => readChannelRuntime_keeps _ (fun _ _ => kept (by simp)) fun _ _ _ => kept (by simp [clearPeaks])
  case arm => exact request _ fun _ => arm_keeps _ refused fun _ _ _ _ _ => kept (by simp)
  case abort => exact request _ fun _ => abort_keeps _ refused (fun _ _ _ => kept (by simp)) fun _ _ _ => kept (by simp)
  case release => exact request _ fun _ => release_keeps _ refused fun _ _ _ => kept (by simp)
  case replay => exact request _ fun _ => replay_keeps _ refused fun _ _ _ => kept (by simp [putFrozen_capture])
  case commit | discardEdits | fire | read | write | writeLevel | writeCondition | writeTrigger | status | unknownKind |
      reset => exact request _ fun _ => kept (by simp)
  case softResetEpochTimer => exact takeReset_keeps _ here (kept (by simp [resetTimer_table]))
  case softResetChannelProcessor => exact takeReset_keeps _ here (kept (by simp [resetChannels]))
  case softResetConditionEngine => exact takeReset_keeps _ here (kept (by simp [resetConditions]))
  case softResetCaptureController => exact takeReset_keeps _ here (kept (by simp [resetCapture]))
  case softResetDeliveryEngine | softResetStreamForwarder | softResetAlertUnit =>
    exact takeReset_keeps _ here (kept (by simp))
  case fireRequest => exact fireRequest_keeps _ here fun _ _ _ => kept (by simp)
  case captureRecordTake => exact captureRecordTake_keeps _ here fun _ _ _ _ => kept (by simp [unitsTake_eq])
  case drainStart => exact drainStart_keeps _ here fun _ _ _ _ _ _ => kept (by simp [startDrain])
  case captureFrameCompletion => exact captureFrameCompletion_keeps _ here fun _ _ _ => kept (by simp)
  case transmissionCompletion first =>
    exact transmissionCompletion_keeps _ first here (fun t _ => kept (by simp)) (fun _ held => held.congr (by simp))
      (fun _ held => held.congr (by simp)) (fun _ held => held.congr (by simp)) fun _ held => held.congr (by simp)
  case linkLossDelivery =>
    exact linkLossDelivery_keeps _ here (fun _ _ _ => kept (by simp)) fun _ _ _ _ => kept (by simp [breakDrain_configs])
  all_goals exact kept (by simp)

end Sys2Proof.Machine

namespace Sys2Proof.Proofs.Kept
open Sys2Proof.Machine

/-- Settles O59: every command but a cold reset leaves LIVE and the generation, or is a swap. -/
theorem banksChangeOnlyBySwap : Obligations.BanksChangeOnlyBySwap := exec_stayedOrSwapped

/-- Settles O60: only WRITE CHANNEL and WRITE UNIT change such entries, and both are refused while a unit rests on
them. -/
theorem protectedEntriesStay : Obligations.ProtectedEntriesStay := exec_entriesKept

end Sys2Proof.Proofs.Kept
end

section
/-! The Epoch Timer, the lanes and the open values stay in agreement (R1, R6, R7, R9, R23, R124): the agreement but for
the completeness rule, which the completeness test then restores. -/

namespace Sys2Proof.Machine

/-- What `EpochsSound` says but for the period timer and the completeness rule of R7 (`epochsSound_iff`). -/
def EpochsAgree (s : State) : Prop :=
  (s.timer.openEpoch.isSome → s.timer.state = .running) ∧
  (s.timer.openEpoch = none → s.timer.participating = 0 ∧ (∀ l : Fin 4, s.lanes[l.val].received = 0) ∧
    ∀ c : Fin 16, s.channels.openValues[c.val] = none) ∧
  (∀ l : Fin 4, has s.timer.participating l = true → s.lanes[l.val].state = .locked) ∧
  (∀ l : Fin 4, s.lanes[l.val].Sound) ∧
  (∀ l : Fin 4, s.lanes[l.val].state = .off ↔ has s.mgmt.control.lanes l = false) ∧
  (s.conditions.commit = .pending → s.timer.state = .running ∨ s.conditions.resetsTaken < s.timer.resetsTaken)

theorem epochsSound_iff (s : State) : EpochsSound s ↔
    (s.timer.periodTimer.isSome ↔ s.timer.state = .running) ∧
    (s.timer.openEpoch.isSome → missingWord s = true) ∧ EpochsAgree s :=
  ⟨fun ⟨timer, running, awaits, closed, locked, lanes, off, commit⟩ =>
      ⟨timer, awaits, running, closed, locked, lanes, off, commit⟩,
    fun ⟨timer, awaits, running, closed, locked, lanes, off, commit⟩ =>
      ⟨timer, running, awaits, closed, locked, lanes, off, commit⟩⟩

theorem EpochsSound.agree {s : State} (sound : EpochsSound s) : EpochsAgree s := ((epochsSound_iff s).mp sound).2.2

theorem EpochsAgree.congr {s t : State} (agree : EpochsAgree s)
    (same : t.timer.openEpoch = s.timer.openEpoch ∧ t.timer.state = s.timer.state ∧
      t.timer.participating = s.timer.participating ∧ t.timer.resetsTaken = s.timer.resetsTaken ∧ t.lanes = s.lanes ∧
      t.channels.openValues = s.channels.openValues ∧ t.mgmt.control.lanes = s.mgmt.control.lanes ∧
      t.conditions.commit = s.conditions.commit ∧ t.conditions.resetsTaken = s.conditions.resetsTaken) :
    EpochsAgree t := by
  obtain ⟨openEpoch, state, participating, taken, lanes, openValues, control, commit, resets⟩ := same
  rw [EpochsAgree, openEpoch, state, participating, taken, lanes, openValues, control, commit, resets]
  exact agree

/-- While an epoch is open, the open values may be any. -/
theorem EpochsAgree.setChannels {s : State} (ch : ChannelProcessor) (opened : s.timer.openEpoch.isSome)
    (agree : EpochsAgree s) : EpochsAgree (s.setChannels ch) := by
  obtain ⟨running, -, others⟩ := agree
  exact ⟨running, fun none => absurd opened (by simp [show s.timer.openEpoch = .none from none]), others⟩

/-! ### Missing words (R5, R7) -/

/-- A missing word is owed by the participating lanes alone. -/
theorem missingWord_congr {s t : State} (participating : t.timer.participating = s.timer.participating)
    (expected : ∀ l : Fin 4, has s.timer.participating l = true →
      expectedSet t.channels.table l = expectedSet s.channels.table l)
    (received : ∀ l : Fin 4, t.lanes[l.val].received = s.lanes[l.val].received) : missingWord t = missingWord s := by
  have same (l : Fin 4) : (has t.timer.participating l && owed t l != 0) =
      (has s.timer.participating l && owed s l != 0) := by
    rw [participating]
    cases takes : has s.timer.participating l with
    | false => rfl
    | true =>
      have owes : owed t l = owed s l := by
        have slots : t.lanes[l].received = s.lanes[l].received := received l
        rw [owed, owed, expected l takes, slots]
      rw [owes]
  simp only [missingWord, same]

theorem EpochsSound.congr {s t : State} (sound : EpochsSound s)
    (same : t.timer = s.timer ∧ t.lanes = s.lanes ∧ t.channels.table = s.channels.table ∧
      t.channels.openValues = s.channels.openValues ∧ t.mgmt.control.lanes = s.mgmt.control.lanes ∧
      t.conditions.commit = s.conditions.commit ∧ t.conditions.resetsTaken = s.conditions.resetsTaken) :
    EpochsSound t := by
  obtain ⟨period, awaits, agree⟩ := (epochsSound_iff s).mp sound
  obtain ⟨timer, lanes, table, openValues, control, commit, resets⟩ := same
  have missing : missingWord t = missingWord s :=
    missingWord_congr (by rw [timer]) (fun _ _ => by rw [table]) fun _ => by rw [lanes]
  rw [epochsSound_iff, missing]
  refine ⟨by rwa [timer], by rwa [timer], agree.congr ?_⟩
  rw [timer]
  exact ⟨rfl, rfl, rfl, rfl, lanes, openValues, control, commit, resets⟩

theorem raise_epochsSound {s : State} (a : AlertSource) (sound : EpochsSound s) : EpochsSound (raise a s) :=
  sound.congr (by simp)

theorem settleAlerts_epochsSound {s : State} (sound : EpochsSound s) : EpochsSound (settleAlerts s) :=
  sound.congr (by simp)

/-! ### Closing, testing and opening (R1, R5, R7) -/

theorem closeEpoch_openEpoch (cause : CloseCause) (s : State) : (closeEpoch cause s).timer.openEpoch = none := by
  cases opened : s.timer.openEpoch with
  | none => rwa [closeEpoch_none opened]
  | some n => rw [closeEpoch_timer opened]

theorem closeEpoch_agree {s : State} (cause : CloseCause) (agree : EpochsAgree s) :
    EpochsAgree (closeEpoch cause s) := by
  cases opened : s.timer.openEpoch with
  | none => rwa [closeEpoch_none opened]
  | some n =>
    obtain ⟨-, -, -, lanes, off, commit⟩ := agree
    rw [EpochsAgree, closeEpoch_timer opened, closeEpoch_lanes opened, closeEpoch_openValues opened]
    refine ⟨nofun, fun _ => ⟨rfl, fun l => ?_, fun c => ?_⟩, fun l takes => ?_, fun l => ?_, fun l => ?_, ?_⟩
    · simp [emptyReceived]
    · simp
    · simp at takes
    · simp only [emptyReceived, Table.mapAll_get]
      exact lanes l
    · simpa [emptyReceived] using off l
    · simpa using commit

/-- An open epoch awaits a word, and the rest agrees: all of `EpochsSound` but the period timer. -/
def EpochsAwait (s : State) : Prop := (s.timer.openEpoch.isSome → missingWord s = true) ∧ EpochsAgree s

/-- R7: the completeness test restores the completeness rule, and keeps the rest. -/
theorem completenessTest_await {s : State} (agree : EpochsAgree s) : EpochsAwait (completenessTest s) := by
  obtain ⟨same, awaits⟩ | ⟨-, -, closes⟩ := completenessTest_cases s
  · rw [same]
    exact ⟨awaits, agree⟩
  · rw [closes, EpochsAwait, closeEpoch_openEpoch]
    exact ⟨nofun, closeEpoch_agree _ agree⟩

theorem completenessTest_epochsSound {s : State} (period : s.timer.periodTimer.isSome ↔ s.timer.state = .running)
    (agree : EpochsAgree s) : EpochsSound (completenessTest s) :=
  (epochsSound_iff _).mpr ⟨by simpa using period, completenessTest_await agree⟩

/-- R1: the opening of an epoch while the timer is RUNNING. -/
theorem openNext_await {s : State} (running : s.timer.state = .running) (agree : EpochsAgree s) :
    EpochsAwait (openNext s) := by
  obtain ⟨-, -, -, lanes, off, commit⟩ := agree
  refine completenessTest_await ⟨fun _ => running, nofun, fun l takes => ?_, lanes, off, commit⟩
  simpa [lockedLanes] using takes

/-- The period timer restarts: it runs exactly while the timer is RUNNING (R2, R3). -/
theorem EpochsAwait.restart {s : State} (p : BitVec 16) (running : s.timer.state = .running) (awaits : EpochsAwait s) :
    EpochsSound (s.setTimer { s.timer with periodTimer := some p }) :=
  (epochsSound_iff _).mpr ⟨by simp [running], awaits⟩

theorem startTimer_epochsSound {s : State} (sound : EpochsSound s) : EpochsSound (startTimer s) := by
  obtain ⟨-, closed, locked, lanes, off, -⟩ := sound.agree
  refine EpochsAwait.restart _ (by simp) (openNext_await rfl ⟨fun _ => rfl, closed, locked, lanes, off, fun _ => .inl rfl⟩)

theorem periodExpiry_epochsSound {s : State} (sound : EpochsSound s) : EpochsSound (periodExpiry s) := by
  unfold periodExpiry
  split
  · exact sound
  · next p runs =>
    have running : s.timer.state = .running := sound.1.mp (by simp [runs])
    exact EpochsAwait.restart _ (by simpa using running) (openNext_await (by simpa using running) (closeEpoch_agree _ sound.agree))

theorem swapPending_commit (e : Epoch) (s : State) : (swapPending e s).conditions.commit = .none := by
  obtain ⟨quiet, idle⟩ | ⟨-, swapped, -⟩ := swapPending_cases e s
  · rwa [idle]
  · rw [swapped]
    rfl

/-- R4, R129: the timer stops with no epoch open, and no commit stays pending. -/
theorem stopTimer_epochsSound {s : State} (sound : EpochsSound s) : EpochsSound (stopTimer s) := by
  have closed := closeEpoch_openEpoch .stop (s.setTimer { s.timer with periodTimer := none })
  have agree := closeEpoch_agree (s := s.setTimer { s.timer with periodTimer := none }) .stop sound.agree
  obtain ⟨-, empty, locked, lanes, off, -⟩ := agree
  unfold stopTimer
  dsimp only
  rw [epochsSound_iff, EpochsAgree, swapPending_commit]
  simp only [swapPending_frame, swapPending_mgmt_kept, State.setTimer_timer, State.setTimer_lanes, State.setTimer_channels,
    State.setTimer_mgmt]
  exact ⟨by simp, by simp [closed], by simp [closed], empty, locked, lanes, off, nofun⟩

/-! ### Lanes (R10 to R17) -/

/-- A lane replaced by a sound one that is LOCKED where the lane was, and OFF exactly where the lane was. -/
theorem putLane_agree {s : State} (l : Fin 4) {r : Lane} (agree : EpochsAgree s) (lane : r.Sound)
    (received : s.timer.openEpoch = none → r.received = 0) (locked : s.lanes[l.val].state = .locked → r.state = .locked)
    (off : r.state = .off ↔ s.lanes[l.val].state = .off) : EpochsAgree (putLane l r s) := by
  obtain ⟨running, closed, participate, lanes, enabled, commit⟩ := agree
  refine ⟨running, fun none => ?_, fun k takes => ?_, fun k => ?_, fun k => ?_, commit⟩
  · obtain ⟨participating, empty, values⟩ := closed none
    refine ⟨participating, fun k => ?_, values⟩
    by_cases this : k = l
    · simpa [putLane, this] using received none
    · simpa [putLane, this] using empty k
  · have before := participate k takes
    by_cases this : k = l
    · subst this
      simpa [putLane] using locked before
    · simpa [putLane, this] using before
  · by_cases this : k = l
    · simpa [putLane, this] using lane
    · simpa [putLane, this] using lanes k
  · by_cases this : k = l
    · subst this
      simpa [putLane, off] using enabled k
    · simpa [putLane, this] using enabled k

/-- A lane replaced by one that has received the same slots. -/
theorem putLane_epochsSound {s : State} (l : Fin 4) {r : Lane} (sound : EpochsSound s) (lane : r.Sound)
    (received : r.received = s.lanes[l.val].received)
    (locked : s.lanes[l.val].state = .locked → r.state = .locked)
    (off : r.state = .off ↔ s.lanes[l.val].state = .off) : EpochsSound (putLane l r s) := by
  obtain ⟨period, awaits, agree⟩ := (epochsSound_iff s).mp sound
  have missing : missingWord (putLane l r s) = missingWord s := by
    refine missingWord_congr rfl (fun _ _ => rfl) fun k => ?_
    by_cases this : k = l <;> simp [putLane, this, received]
  rw [epochsSound_iff, missing]
  refine ⟨period, awaits, putLane_agree l agree lane (fun none => ?_) locked off⟩
  obtain ⟨-, empty, -⟩ := agree.2.1 none
  exact received.trans (empty l)

/-- R11: a good mark. -/
theorem alignmentMark_epochsSound {s : State} (l : Fin 4) (sound : EpochsSound s) :
    EpochsSound (alignmentMark l s) := by
  obtain ⟨-, -, -, lanes, -⟩ := sound.agree
  obtain ⟨goodRun, -, -, unlocked, words, late⟩ := lanes l
  unfold alignmentMark
  dsimp only
  split
  · exact sound
  · exact sound
  · next seeking =>
    have isSeeking : s.lanes[l.val].state = .seeking := seeking
    split
    · exact putLane_epochsSound l sound ⟨Nat.zero_lt_succ _, Nat.zero_lt_succ _, fun _ => rfl, fun _ => rfl, words, late⟩ rfl
        (fun _ => rfl) (by simp [isSeeking])
    · next short =>
      exact putLane_epochsSound l sound ⟨Nat.lt_of_le_of_ne goodRun short, by simp [unlocked, isSeeking],
        fun other => absurd seeking other, unlocked, words, late⟩ rfl id Iff.rfl

/-- R12, R13: the run of good marks of a SEEKING lane is broken. -/
theorem breakRun_epochsSound {s : State} (l : Fin 4)
    (sound : EpochsSound s) : EpochsSound (putLane l { s.lanes[l] with goodRun := 0 } s) := by
  obtain ⟨-, -, -, lanes, -⟩ := sound.agree
  obtain ⟨-, badRun, -, unlocked, words, late⟩ := lanes l
  exact putLane_epochsSound l sound ⟨Nat.zero_lt_succ _, badRun, fun _ => rfl, unlocked, words, late⟩ rfl id Iff.rfl

/-- R14: lanes leave, and the completeness test follows their removal from the participating set. -/
theorem lanesLeave_await {s : State} (leaving : LaneSet)
    (agree : EpochsAgree (s.setTimer { s.timer with participating := s.timer.participating &&& ~~~ leaving })) :
    EpochsAwait (lanesLeave leaving s) :=
  completenessTest_await (agree.congr (by simp [resetCrossings]))

/-- R12 to R14: a LOCKED lane is lost. -/
theorem loseLane_epochsSound {s : State} (l : Fin 4) (isLocked : s.lanes[l.val].state = .locked)
    (sound : EpochsSound s) : EpochsSound (loseLane l s) := by
  obtain ⟨period, -, running, closed, participate, lanes, enabled, commit⟩ := (epochsSound_iff s).mp sound
  refine (epochsSound_iff _).mpr ⟨by simpa using period, lanesLeave_await _ ?_⟩
  refine ⟨running, fun none => ?_, fun k takes => ?_, fun k => ?_, fun k => ?_, commit⟩
  · obtain ⟨participating, empty, values⟩ := closed none
    refine ⟨by simp [participating], fun k => ?_, values⟩
    have before := empty k
    by_cases this : k = l
    · subst this
      simpa using before
    · simpa [this] using before
  · simp only [State.setTimer_timer, has_and, has_not, has_single, Bool.and_eq_true, Bool.not_eq_true',
      decide_eq_false_iff_not] at takes
    simpa [takes.2] using participate k takes.1
  · obtain ⟨-, -, -, -, words, late⟩ := lanes k
    by_cases this : k = l
    · subst this
      simpa [Lane.Sound] using ⟨words, late⟩
    · simpa [this] using lanes k
  · by_cases this : k = l
    · subst this
      simpa [isLocked] using enabled k
    · simpa [this] using enabled k

theorem badSymbol_epochsSound {s : State} (l : Fin 4) (sound : EpochsSound s) : EpochsSound (badSymbol l s) := by
  obtain ⟨-, -, -, lanes, -⟩ := sound.agree
  obtain ⟨goodRun, badRun, still, -, words, late⟩ := lanes l
  unfold badSymbol
  dsimp only
  split
  · exact sound
  · exact breakRun_epochsSound l sound
  · next isLocked =>
    split
    · exact loseLane_epochsSound l isLocked sound
    · next short =>
      exact putLane_epochsSound l sound ⟨goodRun, Nat.lt_of_le_of_ne badRun short, still,
        fun other => absurd isLocked other, words, late⟩ rfl id Iff.rfl

theorem laneLossOfSignal_epochsSound {s : State} (l : Fin 4) (sound : EpochsSound s) :
    EpochsSound (laneLossOfSignal l s) := by
  unfold laneLossOfSignal
  dsimp only
  split
  · exact sound
  · exact breakRun_epochsSound l sound
  · next isLocked => exact loseLane_epochsSound l isLocked sound

/-- R17: the lane of an accepted word. -/
theorem Lane.Sound.accepted {l : Lane} (k : Fin 8) (sound : l.Sound) : Lane.Sound { l with
    received := l.received ||| single 8 k, wordsTaken := satAdd Config.count16Max l.wordsTaken 1 } := by
  obtain ⟨goodRun, badRun, still, unlocked, -, late⟩ := sound
  exact ⟨goodRun, badRun, still, unlocked, satAdd_le _ _ _, late⟩

/-- R17, R23: a word accepted while an epoch is open, whatever values it leaves open. -/
theorem acceptWord_epochsSound {s : State} (l : Fin 4) (k : Fin 8) (raw : BitVec 16) {n : Epoch}
    (opened : s.timer.openEpoch = some n) (sound : EpochsSound s) : EpochsSound (acceptWord l k raw s) := by
  obtain ⟨-, -, -, lanes, -⟩ := sound.agree
  have lane := (lanes l).accepted k
  unfold acceptWord
  generalize deliver l k raw s.channels = delivered
  have agree := sound.agree.setChannels delivered (by simp [opened])
  refine completenessTest_epochsSound sound.1
    (putLane_agree l agree lane (fun none => absurd (opened.symm.trans none) nofun) id Iff.rfl)

theorem judgeWord_epochsSound {s : State} (l : Fin 4) (tag : BitVec 4) (k : Fin 8) (raw : BitVec 16)
    (sound : EpochsSound s) : EpochsSound (judgeWord l tag k raw s) := by
  unfold judgeWord
  split
  · obtain ⟨-, -, -, lanes, -⟩ := sound.agree
    obtain ⟨goodRun, badRun, still, unlocked, words, -⟩ := lanes l
    exact raise_epochsSound _ (putLane_epochsSound l sound
      ⟨goodRun, badRun, still, unlocked, words, satAdd_le _ _ _⟩ rfl id Iff.rfl)
  · next inTime =>
    split
    · exact sound
    · split
      · exact raise_epochsSound _ sound
      · cases opened : s.timer.openEpoch with
        | none => simp [wordLate, opened] at inTime
        | some n => exact acceptWord_epochsSound l k raw opened sound

theorem laneWord_epochsSound {s : State} (l : Fin 4) (tag : BitVec 4) (k : Fin 8) (raw : BitVec 16)
    (sound : EpochsSound s) : EpochsSound (laneWord l tag k raw s) := by
  obtain ⟨-, -, -, lanes, -⟩ := sound.agree
  obtain ⟨goodRun, -, still, -, words, late⟩ := lanes l
  unfold laneWord
  split
  · exact sound
  · exact sound
  · exact judgeWord_epochsSound l tag k raw (putLane_epochsSound l sound
      ⟨goodRun, Nat.zero_lt_succ _, still, fun _ => rfl, words, late⟩ rfl id Iff.rfl)

/-! ### WRITE of CONTROL and of CHANNEL (R7, R10, R14, R21) -/

theorem enabledLane_received (was now : Bool) (l : Lane) : (enabledLane was now l).received = l.received := by
  cases was <;> cases now <;> rfl

theorem enabledLane_sound {was now : Bool} {l : Lane} (sound : l.Sound) : (enabledLane was now l).Sound := by
  obtain ⟨-, -, -, -, words, late⟩ := id sound
  cases was <;> cases now
  case false.true | true.false =>
    exact ⟨Nat.zero_lt_succ _, Nat.zero_lt_succ _, fun _ => rfl, fun _ => rfl, words, late⟩
  all_goals exact sound

/-- R10: a lane is OFF exactly when it is not enabled. -/
theorem enabledLane_off {was now : Bool} {l : Lane} (off : l.state = .off ↔ was = false) :
    (enabledLane was now l).state = .off ↔ now = false := by
  cases was <;> cases now <;> simp [enabledLane, off]

/-- R10, R14: the lanes under a new enable set, the disabled ones out of the participating set. -/
theorem applyLanes_agree {s : State} (r : ControlRecord) (agree : EpochsAgree s) :
    EpochsAgree (((s.setLanes (Table.mapAll (fun l x => enabledLane (has s.mgmt.control.lanes l) (has r.lanes l) x)
      s.lanes)).setMgmt { s.mgmt with control := r }).setTimer { s.timer with
        participating := s.timer.participating &&& ~~~ disabledLocked s r.lanes }) := by
  obtain ⟨running, closed, participate, lanes, enabled, commit⟩ := agree
  refine ⟨running, fun none => ?_, fun l takes => ?_, fun l => ?_, fun l => ?_, commit⟩
  · obtain ⟨participating, empty, values⟩ := closed none
    exact ⟨by simp [participating], fun l => by simpa [enabledLane_received] using empty l, values⟩
  · simp only [State.setTimer_timer, has_and, has_not, Bool.and_eq_true, Bool.not_eq_true'] at takes
    obtain ⟨took, stays⟩ := takes
    have isLocked := participate l took
    have was : has s.mgmt.control.lanes l = true := by
      by_contra disabled
      simp [(enabled l).mpr (by simpa using disabled)] at isLocked
    have now : has r.lanes l = true := by simpa [disabledLocked, isLocked, was] using stays
    simpa [was, now, enabledLane] using isLocked
  · simpa using enabledLane_sound (lanes l)
  · simpa using enabledLane_off (enabled l)

theorem applyControl_epochsSound {s : State} (r : ControlRecord) (sound : EpochsSound s) :
    EpochsSound (applyControl r s) := by
  obtain ⟨period, awaits, agree⟩ := (epochsSound_iff s).mp sound
  have after := applyLanes_agree r agree
  unfold applyControl
  dsimp only
  refine settleAlerts_epochsSound ?_
  split
  · next none =>
    have all : s.timer.participating &&& ~~~ (0 : LaneSet) = s.timer.participating := BitVec.and_allOnes
    rw [none, all] at after
    refine (epochsSound_iff _).mpr ⟨period, fun opened => ?_, after.congr (by simp)⟩
    refine Eq.trans (missingWord_congr (s := s) rfl (fun _ _ => rfl) fun l => ?_) (awaits opened)
    simp [enabledLane_received]
  · exact (epochsSound_iff _).mpr ⟨by simpa using period, lanesLeave_await _ after⟩

/-- R7: a participating lane's expected set is as it was when none changed. -/
theorem expectedSet_of_unchanged {participating : LaneSet} {a b : Table ChannelEntry 16}
    (unchanged : expectedChanged participating a b = false) (l : Fin 4) (takes : has participating l = true) :
    expectedSet b l = expectedSet a l := by
  simp only [expectedChanged, List.any_eq_false, List.mem_finRange, forall_true_left] at unchanged
  have same : expectedSet a l = expectedSet b l := by simpa [takes] using unchanged l
  exact same.symm

/-- R21: the entry replaced, an open value dropped. -/
theorem replaceChannel_agree {s : State} (c : Fin 16) (e : ChannelEntry) (agree : EpochsAgree s) :
    EpochsAgree (s.setChannels (replaceChannel c e s.channels)) := by
  obtain ⟨running, closed, others⟩ := agree
  refine ⟨running, fun none => ?_, others⟩
  obtain ⟨participating, empty, values⟩ := closed none
  refine ⟨participating, empty, fun k => ?_⟩
  by_cases this : k = c
  · simp [replaceChannel, this]
  · simpa [replaceChannel, this] using values k

theorem applyChannel_epochsSound {s : State} (c : Fin 16) (e : ChannelEntry) (sound : EpochsSound s) :
    EpochsSound (applyChannel c e s) := by
  obtain ⟨period, awaits, agree⟩ := (epochsSound_iff s).mp sound
  have replaced (reloads : StreamForwarder) := replaceChannel_agree (s := s.setStream reloads) c e agree
  unfold applyChannel
  dsimp only
  split
  · exact completenessTest_epochsSound period (replaced _)
  · next unchanged =>
    refine (epochsSound_iff _).mpr ⟨period, fun opened => ?_, replaced _⟩
    refine Eq.trans (missingWord_congr (s := s) rfl (fun l takes => ?_) fun _ => rfl) (awaits opened)
    exact expectedSet_of_unchanged (by simpa using unchanged) l takes

/-! ### Commits (R124, R126 to R129, R132) -/

/-- A state in which no commit is pending, or one is while the timer is RUNNING. -/
theorem EpochsSound.recommit {s t : State} (sound : EpochsSound s) (same : t.timer = s.timer ∧ t.lanes = s.lanes ∧
      t.channels = s.channels ∧ t.mgmt.control = s.mgmt.control)
    (commit : t.conditions.commit = .pending → t.timer.state = .running) : EpochsSound t := by
  obtain ⟨timer, lanes, channels, control⟩ := same
  obtain ⟨period, awaits, running, closed, participate, lane, off, -⟩ := (epochsSound_iff s).mp sound
  have missing : missingWord t = missingWord s :=
    missingWord_congr (by rw [timer]) (fun _ _ => by rw [channels]) fun _ => by rw [lanes]
  rw [epochsSound_iff, missing]
  refine ⟨by rwa [timer], by rwa [timer], ?_⟩
  rw [EpochsAgree, timer, lanes, channels, control]
  exact ⟨running, closed, participate, lane, off, fun pending => .inl (timer ▸ commit pending)⟩

theorem walkRecord_epochsSound {s : State} (rec : EpochRecord) (sound : EpochsSound s) :
    EpochsSound (walkRecord rec s) := by
  have quiet : (walkRecord rec s).conditions.commit = .none := by
    simp [walkRecord, swapPending_commit]
  exact sound.recommit (by simp [walkRecord]) (by simp [quiet])

/-! ### Soft resets (R18, R35, R132) -/

/-- R18, R124: the timer stops, and a commit stays pending only until the Condition Engine takes this reset too. -/
theorem resetTimer_epochsSound {s : State} (sound : EpochsSound s) : EpochsSound (resetTimer s) := by
  obtain ⟨-, -, -, lanes, off, -⟩ := sound.agree
  have commit : (resetTimer s).conditions.commit = .pending →
      (resetTimer s).conditions.resetsTaken < (resetTimer s).timer.resetsTaken := by
    unfold resetTimer
    dsimp only
    split
    · simp [cancelCommit]
    · next behind => simpa using fun _ => Nat.lt_succ_of_le (Nat.le_of_not_lt behind)
  have timer : (resetTimer s).timer = { s.timer with
      state := .stopped, nextEpoch := 0, openEpoch := none, participating := 0, lastClosed := none, periodTimer := none,
      resetsTaken := s.timer.resetsTaken + 1 } := by
    unfold resetTimer
    dsimp only
    split <;> simp [cancelCommit]
  have cleared : (resetTimer s).lanes =
      Table.mapAll (fun _ l => { l with received := 0, wordsTaken := 0, lateWords := 0 }) s.lanes := by
    unfold resetTimer
    dsimp only
    split <;> simp [cancelCommit]
  rw [epochsSound_iff, EpochsAgree]
  refine ⟨by simp [timer], by simp [timer], by simp [timer], fun _ => ⟨by simp [timer], ?_, ?_⟩, by simp [timer], ?_, ?_,
    fun pending => .inr (commit pending)⟩
  · simp [cleared]
  · simp [resetTimer]
  · intro l
    obtain ⟨goodRun, badRun, still, unlocked, -, -⟩ := lanes l
    simpa [cleared] using ⟨goodRun, badRun, still, unlocked, Nat.zero_le _, Nat.zero_le _⟩
  · simpa [cleared] using off

theorem resetConditions_epochsSound {s : State} (sound : EpochsSound s) : EpochsSound (resetConditions s) :=
  sound.recommit (by simp [resetConditions]) (by simp [resetConditions])

/-- R35: the values delivered for an open epoch are dropped. -/
theorem resetChannels_epochsSound {s : State} (sound : EpochsSound s) : EpochsSound (resetChannels s) := by
  obtain ⟨period, awaits, running, closed, others⟩ := (epochsSound_iff s).mp sound
  refine (epochsSound_iff _).mpr ⟨period, awaits, running, fun none => ?_, others⟩
  obtain ⟨participating, empty, -⟩ := closed none
  exact ⟨participating, empty, by simp [resetChannels]⟩

theorem reset_epochsSound : EpochsSound State.reset := by
  refine (epochsSound_iff _).mpr ⟨by decide, by decide, by decide, by decide, by decide, fun l => ?_, by decide, by decide⟩
  fin_cases l <;> exact ⟨by decide, by decide, by decide, by decide, by decide, by decide⟩

/-- Every command keeps the epochs sound. -/
theorem exec_epochsSound (c : Instr) (s t : State) (sound : EpochsSound s) (executed : exec c s = .next t) :
    EpochsSound t := by
  have event {u : State} (same : EpochsSound u) : EpochsSound (arbitrate u) := same.congr (by simp)
  have answered {u : State} (st : Status) (r : ReplyContent) (same : EpochsSound u) : EpochsSound (finishHead st r u) :=
    same.congr (by simp)
  have refused (st : Status) : EpochsSound (refuse st s) := answered st _ sound
  have bad : EpochsSound (badFrame s) :=
    badFrame_keeps EpochsSound sound (fun _ => sound) (sound.congr (by simp)) fun _ _ => sound.congr (by simp)
  have request (row : RequestRow) {act : Request → State → State} (acted : ∀ q, EpochsSound (act q s)) :
      EpochsSound (execHead row act s) :=
    execHead_keeps EpochsSound sound (fun q _ _ _ => acted q) fun _ => event
  cases c <;> cases executed
  case coldReset => exact reset_epochsSound.congr (by simp [coldReset])
  case periodExpiry => exact periodExpiry_epochsSound sound
  case laneWord l tag k raw => exact laneWord_epochsSound l tag k raw sound
  case alignmentMark l => exact alignmentMark_epochsSound l sound
  case badSymbol l => exact badSymbol_epochsSound l sound
  case laneLossOfSignal l => exact laneLossOfSignal_epochsSound l sound
  case walk =>
    exact walk_keeps _ sound fun o _ _ _ => event (walkRecord_epochsSound o.record (sound.congr (by simp)))
  case epochStart => exact request _ fun _ => epochStart_keeps _ refused fun _ => answered _ _ (startTimer_epochsSound sound)
  case epochStop => exact request _ fun _ => epochStop_keeps _ refused fun _ => answered _ _ (stopTimer_epochsSound sound)
  case writeChannel =>
    exact request _ fun _ => writeChannel_keeps _ refused fun ch e _ _ => answered _ _ (applyChannel_epochsSound ch e sound)
  case writeControl =>
    exact request _ fun _ => writeControl_keeps _ refused fun r _ _ _ => answered _ _ (applyControl_epochsSound r sound)
  case commit =>
    exact request _ fun _ => commit_keeps _ refused
      (fun _ _ _ => answered _ _ (sound.recommit ⟨rfl, rfl, rfl, rfl⟩ nofun))
      fun _ running => sound.recommit ⟨rfl, rfl, rfl, rfl⟩ fun _ => running
  case readChannelRuntime =>
    exact request _ fun _ => readChannelRuntime_keeps _ (fun st r => answered st r sound)
      fun _ _ _ => answered _ _ (sound.congr (by simp))
  case alertAck => exact ackHead_keeps _ sound (request _ fun _ => sound.congr (by simp))
  case fire =>
    exact request _ fun _ => fire_keeps _ refused (fun _ _ _ _ _ => answered _ _ (sound.congr (by simp)))
      fun _ _ _ _ _ => sound.congr (by simp)
  case discardEdits =>
    exact request _ fun _ => discardEdits_keeps _ refused fun _ _ => answered _ _ (sound.congr (by simp))
  case writeLevel | writeCondition | writeTrigger =>
    exact request _ fun _ => writeBanked_keeps _ refused fun _ _ _ => answered _ _ (sound.congr ⟨rfl, rfl, rfl, rfl, rfl, rfl, rfl⟩)
  case fireRequest => exact fireRequest_keeps _ sound fun _ _ _ => sound.congr (by simp)
  case streamRecordTake => exact streamRecordTake_keeps _ sound fun _ _ _ _ => event (sound.congr (by simp))
  case streamFrameCompletion => exact streamFrameCompletion_keeps _ sound fun _ _ _ => event (sound.congr (by simp))
  case linkLossManagement => exact linkLossManagement_keeps _ sound fun _ _ _ lost => sound.congr (by simp [lost])
  case linkLossOfSignal => exact linkLossOfSignal_keeps _ sound (sound.congr (by simp))
  case badFrame => exact bad
  case requestFrame tag body =>
    exact requestFrame_keeps _ tag body sound (fun _ => sound) (fun _ _ => sound.congr (by simp)) bad
  case creditFrame count => exact creditFrame_keeps _ count sound (fun _ => sound) fun _ => event (sound.congr (by simp))
  case transmissionCompletion first =>
    exact transmissionCompletion_keeps _ first sound (fun t _ => sound.congr (by simp))
      (fun _ same => same.congr (by simp)) (fun _ same => same.congr (by simp)) (fun _ same => same.congr (by simp))
      fun _ => event
  case softResetDone => exact softResetDone_keeps _ sound fun _ _ => event (answered _ _ sound)
  case drainStart => exact drainStart_keeps _ sound fun _ _ _ _ _ _ => event (sound.congr (by simp))
  case captureFrameCompletion => exact captureFrameCompletion_keeps _ sound fun _ _ _ => event (sound.congr (by simp))
  case alertRaise src => exact alertRaise_keeps _ src sound fun _ => event (sound.congr (by simp))
  case reAnnounceTimerExpiry => exact reAnnounceTimerExpiry_keeps _ sound fun _ => event (sound.congr (by simp))
  case alertFrameCompletion =>
    exact alertFrameCompletion_keeps _ sound (fun _ _ _ => sound) (fun _ _ _ _ => event (sound.congr (by simp)))
      fun _ _ _ _ => event (sound.congr (by simp))
  case linkLossAlert => exact linkLossAlert_keeps _ sound fun _ _ _ lost => event (sound.congr (by simp [lost]))
  case fireAnswer => exact fireAnswer_keeps _ sound fun _ _ _ => event (sound.congr (by simp))
  case read | write | writeUnit | arm | abort | release |
      replay | status | unknownKind | reset => exact request _ fun _ => sound.congr (by simp)
  case softResetEpochTimer => exact takeReset_keeps _ sound (resetTimer_epochsSound sound)
  case softResetChannelProcessor => exact takeReset_keeps _ sound (resetChannels_epochsSound sound)
  case softResetConditionEngine => exact takeReset_keeps _ sound (resetConditions_epochsSound sound)
  case softResetCaptureController | softResetDeliveryEngine | softResetStreamForwarder | softResetAlertUnit =>
    exact takeReset_keeps _ sound (sound.congr (by simp))
  all_goals exact sound.congr (by simp)

end Sys2Proof.Machine

namespace Sys2Proof.Proofs.EpochsSound
open Sys2Proof.Machine

/-- Settles O56: every command keeps the timer, the lanes and the open values in agreement. -/
theorem stepKeepsEpochsSound : Obligations.StepKeepsEpochsSound := fun _ _ =>
  step_keeps (P := EpochsSound) (fun _ _ => id) exec_epochsSound

end Sys2Proof.Proofs.EpochsSound
end

section
/-! The drain queue holds exactly the HELD units, and the DRAINING unit is the Delivery Engine's (R76, R98); the regions
of the units outside IDLE stay apart (R80). -/

namespace Sys2Proof.Machine

/-! ### The runtime of a unit (R76, R81 to R94) -/

theorem cleared_unitSound : UnitRuntime.cleared.Sound := rfl

theorem armedRuntime_state (c : UnitConfig) (e : Epoch) :
    (armedRuntime c e).state = .filling ∨ (armedRuntime c e).state = .armed := by
  by_cases none : c.pre = 0 <;> simp [armedRuntime, none]

theorem armedRuntime_sound (c : UnitConfig) (e : Epoch) : (armedRuntime c e).Sound := by
  by_cases none : c.pre = 0 <;> simp [armedRuntime, none, UnitRuntime.Sound, UnitRuntime.cleared]

/-- A released unit is IDLE, or rearmed (R94). -/
theorem releasedRuntime_cases (c : UnitConfig) (e : Epoch) :
    releasedRuntime c e = UnitRuntime.cleared ∨ releasedRuntime c e = armedRuntime c e := by
  unfold releasedRuntime
  split
  · exact .inl rfl
  · exact .inr rfl

/-- A unit neither waiting for its drain nor in it. -/
def UnitRuntime.Apart (u : UnitRuntime) : Prop := u.state ≠ .held ∧ u.state ≠ .draining

theorem UnitRuntime.Apart.of_state {u : UnitRuntime} {st : UnitState} (state : u.state = st)
    (other : st ≠ .held ∧ st ≠ .draining) : u.Apart := by
  rwa [UnitRuntime.Apart, state]

theorem armedRuntime_apart (c : UnitConfig) (e : Epoch) : (armedRuntime c e).Apart := by
  obtain filling | armed := armedRuntime_state c e
  · exact .of_state filling (by decide)
  · exact .of_state armed (by decide)

theorem releasedRuntime_sound (c : UnitConfig) (e : Epoch) :
    (releasedRuntime c e).Sound ∧ (releasedRuntime c e).Apart := by
  obtain cleared | armed := releasedRuntime_cases c e
  · rw [cleared]
    exact ⟨cleared_unitSound, nofun, nofun⟩
  · rw [armed]
    exact ⟨armedRuntime_sound c e, armedRuntime_apart c e⟩

/-- A unit in POST, or just frozen. -/
def UnitRuntime.Capturing (u : UnitRuntime) : Prop := u.Sound ∧ (u.state = .post ∨ u.state = .held)

theorem UnitRuntime.Capturing.not_draining {u : UnitRuntime} (capturing : u.Capturing) : u.state ≠ .draining := by
  obtain ⟨-, post | held⟩ := capturing
  · simp [post]
  · simp [held]

/-- In POST the record is there, unsettled, and no attempt has been made. -/
theorem capturing_of_post {u : UnitRuntime} {r : CaptureRecord} (post : u.state = .post) (record : u.record = some r)
    (open_ : r.settled = none) (attempt : u.attempt = none) : u.Capturing := by
  refine ⟨?_, .inl post⟩
  rw [UnitRuntime.Sound, post]
  exact ⟨r, record, open_, attempt⟩

theorem post_of_sound {u : UnitRuntime} (sound : u.Sound) (post : u.state = .post) :
    ∃ r, u.record = some r ∧ r.settled = none ∧ u.attempt = none := by
  rwa [UnitRuntime.Sound, post] at sound

theorem freeze_capturing (e : Epoch) (reason : EndReason) (r : CaptureRecord) (u : UnitRuntime) :
    (freeze e reason r u).Capturing :=
  ⟨⟨_, rfl, nofun⟩, .inr rfl⟩

/-- R83: the window test leaves the unit in POST, or freezes it. -/
theorem windowTest_capturing (c : UnitConfig) (r : CaptureRecord) (t : Slot) {u : UnitRuntime} (sound : u.Sound)
    (post : u.state = .post) : (windowTest c r t u).Capturing := by
  obtain ⟨r', record, unsettled, attempt⟩ := post_of_sound sound post
  have counted : (match c.postMode with
      | .epochs => u
      | .cycles => { u with crossings := crossingsAfter u t } : UnitRuntime).Capturing := by
    cases c.postMode <;> exact capturing_of_post post record unsettled attempt
  unfold windowTest
  dsimp only
  split
  · exact freeze_capturing ..
  · exact counted

/-- R86: the window tests of the held slots. -/
theorem testHeld_capturing (c : UnitConfig) (r : CaptureRecord) (ring : List Slot) {u : UnitRuntime} (sound : u.Sound)
    (post : u.state = .post) : (testHeld c r ring u).Capturing := by
  induction ring generalizing u with
  | nil => exact ⟨sound, .inl post⟩
  | cons t rest ih =>
    have tested := windowTest_capturing c r t sound post
    obtain ⟨soundAfter, stays | frozen⟩ := id tested
    · rw [testHeld, if_neg (by simp [stays])]
      exact ih soundAfter stays
    · rw [testHeld, if_pos frozen]
      exact tested

theorem startedRuntime_capturing (c : UnitConfig) {r : CaptureRecord} (unsettled : r.settled = none) {u : UnitRuntime}
    (attempt : u.attempt = none) : (startedRuntime c r u).Capturing :=
  testHeld_capturing c r _ (u := postRuntime c r u) ⟨r, rfl, unsettled, attempt⟩ rfl

/-- R82: a ring write in POST. -/
theorem collectPost_capturing (c : UnitConfig) (t : Slot) {u : UnitRuntime} (sound : u.Sound) (post : u.state = .post) :
    (collectPost c t u).Capturing := by
  obtain ⟨r, record, unsettled, attempt⟩ := post_of_sound sound post
  have longer : ({ u with ring := u.ring ++ [t], record := some r } : UnitRuntime).Capturing :=
    capturing_of_post post rfl unsettled attempt
  unfold collectPost
  rw [record]
  dsimp only
  split
  · exact ⟨sound, .inl post⟩
  · split
    · exact longer
    · exact windowTest_capturing c r t longer.1 post

/-- R88, R89: a retrigger leaves the unit in POST. -/
theorem retriggered_post (c : UnitConfig) (m : Epoch) {u : UnitRuntime} (sound : u.Sound) (post : u.state = .post) :
    (retriggered c m u).Sound ∧ (retriggered c m u).state = .post := by
  obtain ⟨r, record, unsettled, attempt⟩ := post_of_sound sound post
  have kept (x : UnitRuntime) (state : x.state = u.state)
      (same : x.record = u.record.map fun r => { r with retriggers := satAdd Config.count8Max r.retriggers 1 })
      (tries : x.attempt = u.attempt) : x.Sound ∧ x.state = .post := by
    have isPost : x.state = .post := state.trans post
    have again : x.record = some { r with retriggers := satAdd Config.count8Max r.retriggers 1 } := by
      rw [same, record, Option.map_some]
    exact ⟨(capturing_of_post isPost again unsettled (tries.trans attempt)).1, isPost⟩
  unfold retriggered
  dsimp only
  split
  · exact kept _ rfl rfl rfl
  · exact kept _ rfl rfl rfl
  · split
    · split <;> exact kept _ rfl rfl rfl
    · exact kept _ rfl rfl rfl

/-- R81: a ring write before the trigger leaves the unit FILLING or ARMED. -/
theorem collect_sound (c : UnitConfig) (t : Slot) {u : UnitRuntime} (sound : u.Sound)
    (before : u.state = .filling ∨ u.state = .armed) : (collect c t u).Sound ∧ (collect c t u).Apart := by
  have fields : u.startEpoch ≠ none ∧ u.record = none ∧ u.attempt = none := by
    obtain filling | armed := before
    · rwa [UnitRuntime.Sound, filling] at sound
    · rwa [UnitRuntime.Sound, armed] at sound
  have after : (collect c t u).state = .filling ∨ (collect c t u).state = .armed := by
    obtain promoted | stays : (collect c t u).state = .armed ∨ (collect c t u).state = u.state := ite_eq_or_eq ..
    · exact .inr promoted
    · rwa [stays]
  obtain filling | armed := after
  · refine ⟨?_, by simp [UnitRuntime.Apart, filling]⟩
    rw [UnitRuntime.Sound, filling]
    exact fields
  · refine ⟨?_, by simp [UnitRuntime.Apart, armed]⟩
    rw [UnitRuntime.Sound, armed]
    exact fields

/-! ### A unit replaced (R98) -/

/-- The DRAINING unit is the one the Delivery Engine works on; out of step, the block that has taken more soft resets
holds nothing. -/
def DrainsAgree (s : State) : Prop :=
  (∀ u v : Fin 4, s.capture.units[u.val].state = .draining → s.capture.units[v.val].state = .draining → u = v) ∧
  (s.delivery.resetsTaken = s.capture.resetsTaken →
    ∀ u : Fin 4, s.capture.units[u.val].state = .draining ↔ s.delivery.drain.map (·.unit) = some u) ∧
  (s.delivery.resetsTaken < s.capture.resetsTaken → ∀ u : Fin 4, s.capture.units[u.val].state ≠ .draining) ∧
  (s.capture.resetsTaken < s.delivery.resetsTaken → s.delivery.drain = none)

theorem captureSound_iff (s : State) : CaptureSound s ↔
    (∀ u : Fin 4, s.capture.units[u.val].Sound) ∧ s.capture.drainQueue.Nodup ∧
    (∀ u : Fin 4, u ∈ s.capture.drainQueue ↔ s.capture.units[u.val].state = .held) ∧ DrainsAgree s := Iff.rfl

theorem DrainsAgree.congr {s t : State} (agree : DrainsAgree s)
    (draining : ∀ u : Fin 4, t.capture.units[u.val].state = .draining ↔ s.capture.units[u.val].state = .draining)
    (capture : t.capture.resetsTaken = s.capture.resetsTaken)
    (delivery : t.delivery.resetsTaken = s.delivery.resetsTaken)
    (drain : t.delivery.drain.map (·.unit) = s.delivery.drain.map (·.unit)) : DrainsAgree t := by
  have idle : t.delivery.drain = none ↔ s.delivery.drain = none := by
    rw [← Option.map_eq_none_iff, drain, Option.map_eq_none_iff]
  simp only [DrainsAgree, ne_eq, draining, capture, delivery, drain, idle]
  exact agree

theorem CaptureSound.congr {s t : State} (sound : CaptureSound s)
    (same : t.capture.units = s.capture.units ∧ t.capture.drainQueue = s.capture.drainQueue ∧
      t.capture.resetsTaken = s.capture.resetsTaken ∧ t.delivery.resetsTaken = s.delivery.resetsTaken ∧
      t.delivery.drain.map (·.unit) = s.delivery.drain.map (·.unit)) : CaptureSound t := by
  obtain ⟨units, nodup, queue, agree⟩ := (captureSound_iff s).mp sound
  obtain ⟨unitsSame, queueSame, capture, delivery, drain⟩ := same
  rw [captureSound_iff, unitsSame, queueSame]
  exact ⟨units, nodup, queue, agree.congr (by simp [unitsSame]) capture delivery drain⟩

/-- A unit replaced by a sound one, the drain queue and the drain as they have to be. -/
theorem CaptureSound.replaceUnit {s t : State} (sound : CaptureSound s) (u : Fin 4) {r : UnitRuntime} (unit : r.Sound)
    (units : t.capture.units = Table.put s.capture.units u r) (nodup : t.capture.drainQueue.Nodup)
    (own : u ∈ t.capture.drainQueue ↔ r.state = .held)
    (others : ∀ v, v ≠ u → (v ∈ t.capture.drainQueue ↔ v ∈ s.capture.drainQueue)) (agree : DrainsAgree t) :
    CaptureSound t := by
  obtain ⟨before, -, queue, -⟩ := (captureSound_iff s).mp sound
  refine (captureSound_iff t).mpr ⟨fun v => ?_, nodup, fun v => ?_, agree⟩
  · by_cases this : v = u
    · simpa [units, this] using unit
    · simpa [units, this] using before v
  · by_cases this : v = u
    · simpa [units, this] using own
    · rw [others v this, queue v]
      simp [units, this]

/-- A unit replaced outside its drain. -/
theorem DrainsAgree.replaceUnit {s t : State} (agree : DrainsAgree s) (u : Fin 4) {r : UnitRuntime}
    (units : t.capture.units = Table.put s.capture.units u r) (before : s.capture.units[u.val].state ≠ .draining)
    (after : r.state ≠ .draining)
    (same : t.capture.resetsTaken = s.capture.resetsTaken ∧ t.delivery.resetsTaken = s.delivery.resetsTaken ∧
      t.delivery.drain.map (·.unit) = s.delivery.drain.map (·.unit)) : DrainsAgree t := by
  obtain ⟨capture, delivery, drain⟩ := same
  refine agree.congr (fun v => ?_) capture delivery drain
  by_cases this : v = u
  · subst this
    simp [units, before, after]
  · simp [units, this]

/-- The drain of a unit ended, the two blocks in step. -/
theorem DrainsAgree.end_ {s t : State} (agree : DrainsAgree s) {d : Drain} {r : UnitRuntime}
    (drain : s.delivery.drain = some d) (inStep : s.delivery.resetsTaken = s.capture.resetsTaken)
    (units : t.capture.units = Table.put s.capture.units d.unit r) (after : r.state ≠ .draining)
    (same : t.capture.resetsTaken = s.capture.resetsTaken ∧ t.delivery.resetsTaken = s.delivery.resetsTaken)
    (ended : t.delivery.drain = none) : DrainsAgree t := by
  obtain ⟨-, owns, -, -⟩ := agree
  obtain ⟨capture, delivery⟩ := same
  have none (v : Fin 4) : t.capture.units[v.val].state ≠ .draining := by
    by_cases this : v = d.unit
    · simpa [units, this] using after
    · have := owns inStep v
      simp_all [eq_comm]
  exact ⟨fun v _ isDraining => absurd isDraining (none v), fun _ v => by simp [none v, ended], fun _ => none,
    fun _ => ended⟩

/-- R98, R107: the unit of the drain is in DRAINING, and not in the drain queue. -/
theorem CaptureSound.drainUnit {s : State} (sound : CaptureSound s) {d : Drain} (drain : s.delivery.drain = some d)
    (inStep : s.delivery.resetsTaken = s.capture.resetsTaken) :
    s.capture.units[d.unit.val].state = .draining ∧ d.unit ∉ s.capture.drainQueue := by
  obtain ⟨-, -, queue, -, owns, -, -⟩ := sound
  have draining : s.capture.units[d.unit.val].state = .draining := (owns inStep d.unit).mpr (by rw [drain, Option.map_some])
  exact ⟨draining, fun held => by simp [(queue d.unit).mp held] at draining⟩

/-! ### The operations on units -/

/-- A unit neither HELD nor DRAINING replaced by another such. -/
theorem putUnit_captureSound {s : State} (u : Fin 4) {r : UnitRuntime} (sound : CaptureSound s) (unit : r.Sound)
    (before : s.capture.units[u.val].Apart) (after : r.Apart) : CaptureSound (putUnit u r s) := by
  obtain ⟨-, nodup, queue, agree⟩ := (captureSound_iff s).mp sound
  obtain ⟨notHeld, notDraining⟩ := before
  have absent : u ∉ s.capture.drainQueue := mt (queue u).mp notHeld
  exact sound.replaceUnit u unit rfl nodup (iff_of_false absent after.1) (fun _ _ => Iff.rfl)
    (agree.replaceUnit u rfl notDraining after.2 ⟨rfl, rfl, rfl⟩)

/-- R91: a unit neither HELD nor DRAINING that freezes joins the drain queue. -/
theorem putFrozen_captureSound {s : State} (u : Fin 4) {r : UnitRuntime} (sound : CaptureSound s) (unit : r.Sound)
    (before : s.capture.units[u.val].Apart) (after : r.state ≠ .draining) : CaptureSound (putFrozen u r s) := by
  by_cases held : r.state = .held
  · obtain ⟨-, nodup, queue, agree⟩ := (captureSound_iff s).mp sound
    obtain ⟨notHeld, notDraining⟩ := before
    have absent : u ∉ s.capture.drainQueue := mt (queue u).mp notHeld
    have frozen : putFrozen u r s = { s with capture := { s.capture with
        units := Table.put s.capture.units u r, drainQueue := s.capture.drainQueue ++ [u] } } := by
      rw [putFrozen_eq, if_pos held]
    rw [frozen]
    refine sound.replaceUnit u unit rfl ?_ (by simp [held]) (fun v other => by simp [other])
      (agree.replaceUnit u rfl notDraining after ⟨rfl, rfl, rfl⟩)
    simpa [List.nodup_append, nodup] using fun v mem (this : v = u) => absent (this ▸ mem)
  · have stays : putFrozen u r s = putUnit u r s := if_neg held
    rw [stays]
    exact putUnit_captureSound u sound unit before ⟨held, after⟩

/-- R95: a DELIVERED unit waits for another drain. -/
theorem replay_captureSound {s : State} (u : Fin 4) (sound : CaptureSound s)
    (delivered : s.capture.units[u.val].state = .delivered) :
    CaptureSound (putFrozen u { s.capture.units[u] with state := .held } s) := by
  have settled := sound.1 u
  rw [UnitRuntime.Sound, delivered] at settled
  exact putFrozen_captureSound u sound settled (.of_state delivered (by decide)) nofun

/-- R93: a unit outside its drain aborted. -/
theorem abortUnit_captureSound {s : State} (u : Fin 4) (sound : CaptureSound s)
    (before : s.capture.units[u.val].state ≠ .draining) : CaptureSound (abortUnit u s) := by
  obtain ⟨-, nodup, -, agree⟩ := (captureSound_iff s).mp sound
  refine sound.replaceUnit u cleared_unitSound rfl (nodup.filter _) ?_ (fun v other => ?_)
    (agree.replaceUnit u rfl before nofun ⟨rfl, rfl, rfl⟩)
  · simp [UnitRuntime.cleared]
  · simp [other]

/-- A unit takes a record (R78, R91). -/
theorem unitStep_captureSound (rec : EpochRecord) (u : Fin 4) {s : State} (sound : CaptureSound s) :
    CaptureSound (unitStep rec s u) := by
  have unit : s.capture.units[u].Sound := sound.1 u
  have same : CaptureSound (putUnit u s.capture.units[u] s) := sound.congr ⟨Vector.set_getElem_self _, rfl, rfl, rfl, rfl⟩
  have collects (before : s.capture.units[u].state = .filling ∨ s.capture.units[u].state = .armed)
      (apart : s.capture.units[u].Apart) :
      CaptureSound (putUnit u (collect s.capture.configs[u] (slotOf s.capture.configs[u] rec) s.capture.units[u]) s) := by
    obtain ⟨after, stays⟩ := collect_sound s.capture.configs[u] (slotOf s.capture.configs[u] rec) unit before
    exact putUnit_captureSound u sound after apart stays
  unfold unitStep unitTakes
  dsimp only
  cases state : s.capture.units[u].state with
  | filling => exact collects (.inl state) (.of_state state (by decide))
  | armed => exact collects (.inr state) (.of_state state (by decide))
  | post =>
    have capturing := collectPost_capturing s.capture.configs[u] (slotOf s.capture.configs[u] rec) unit state
    exact putFrozen_captureSound u sound capturing.1 (.of_state state (by decide)) capturing.not_draining
  | idle | held | draining | delivered => exact same

/-- R78: every unit takes the record. -/
theorem unitsTake_captureSound (rec : EpochRecord) {s : State} (sound : CaptureSound s) :
    CaptureSound (unitsTake rec s) := by
  unfold unitsTake
  induction List.finRange 4 generalizing s with
  | nil => exact sound
  | cons u us ih => exact ih (unitStep_captureSound rec u sound)

theorem returnAnswer_captureSound {s : State} (f : FireRequest) (a : Answer) (sound : CaptureSound s) :
    CaptureSound (returnAnswer f a s) := sound.congr (by simp)

/-- R84: the answer to a fire. -/
theorem takeFire_captureSound (f : FireRequest) {s : State} (sound : CaptureSound s) : CaptureSound (takeFire f s) := by
  have unit : s.capture.units[f.unit].Sound := sound.1 f.unit
  have missed : CaptureSound (returnAnswer f .missed s) := returnAnswer_captureSound f _ sound
  have starts (floor : Epoch) (attempt : s.capture.units[f.unit].attempt = none) (apart : s.capture.units[f.unit].Apart) :
      CaptureSound (startCapture f floor s) := by
    have capturing := startedRuntime_capturing s.capture.configs[f.unit] (u := s.capture.units[f.unit])
      (r := startRecord s.capture.configs[f.unit] f.unit s.capture.number floor f) rfl attempt
    refine returnAnswer_captureSound f _ ?_
    exact putFrozen_captureSound f.unit sound capturing.1 apart capturing.not_draining
  unfold takeFire
  dsimp only
  cases state : s.capture.units[f.unit].state with
  | filling | armed =>
    have fields := unit
    rw [UnitRuntime.Sound, state] at fields
    obtain ⟨-, -, attempt⟩ := fields
    dsimp only
    split
    · split
      · exact missed
      · exact starts _ attempt (.of_state state (by decide))
    · exact missed
  | post =>
    obtain ⟨after, stays⟩ := retriggered_post s.capture.configs[f.unit] f.epoch unit state
    refine returnAnswer_captureSound f _ (putUnit_captureSound f.unit sound after ?_ ?_)
    · exact .of_state state (by decide)
    · exact .of_state stays (by decide)
  | idle | held | draining | delivered => exact missed

/-! ### The drain (R100 to R111) -/

/-- R100: the drain of the unit at the head of the drain queue starts. -/
theorem startDrain_captureSound {s : State} {u : Fin 4} {rest : List (Fin 4)} {r : CaptureRecord} (sound : CaptureSound s)
    (may : mayStartDrain s = true) (queued : s.capture.drainQueue = u :: rest) : CaptureSound (startDrain u rest r s) := by
  obtain ⟨units, nodup, queue, agree⟩ := (captureSound_iff s).mp sound
  obtain ⟨-, owns, -, -⟩ := agree
  simp only [mayStartDrain, deliveryInStep, Bool.and_eq_true, Option.isNone_iff_eq_none, beq_iff_eq] at may
  obtain ⟨⟨⟨idle, -⟩, -⟩, inStep⟩ := may
  have held : s.capture.units[u.val].state = .held := (queue u).mp (by simp [queued])
  have none (v : Fin 4) : s.capture.units[v.val].state ≠ .draining := by
    rw [ne_eq, owns inStep v, idle]
    nofun
  have settled := units u
  rw [UnitRuntime.Sound, held] at settled
  rw [queued, List.nodup_cons] at nodup
  have draining (v : Fin 4) : (startDrain u rest r s).capture.units[v.val].state = .draining ↔ v = u := by
    by_cases this : v = u
    · simp [startDrain, this]
    · simpa [startDrain, this] using none v
  have drain : (startDrain u rest r s).delivery.drain.map (·.unit) = some u := by simp [startDrain, newDrain]
  refine sound.replaceUnit u (r := { s.capture.units[u] with
    state := .draining, attempt := some (nextAttempt s.capture.units[u].attempt) }) settled rfl nodup.2 ?_ ?_ ?_
  · exact iff_of_false nodup.1 nofun
  · intro v other
    simp [startDrain, queued, other]
  · refine ⟨fun v w isV isW => ?_, fun _ v => ?_, fun behind => ?_, fun ahead => ?_⟩
    · rw [(draining v).mp isV, (draining w).mp isW]
    · rw [draining v, drain, Option.some_inj, eq_comm]
    · exact absurd behind (by simp [startDrain, inStep])
    · exact absurd ahead (by simp [startDrain, inStep])

/-- The drain of a unit ended with another runtime for its unit, outside the drain queue. -/
theorem endDrain_captureSound {s t : State} {d : Drain} {r : UnitRuntime} (sound : CaptureSound s)
    (drain : s.delivery.drain = some d) (inStep : s.delivery.resetsTaken = s.capture.resetsTaken) (unit : r.Sound)
    (apart : r.Apart) (units : t.capture.units = Table.put s.capture.units d.unit r)
    (queue : t.capture.drainQueue = s.capture.drainQueue ∨
      t.capture.drainQueue = s.capture.drainQueue.filter fun v => v != d.unit)
    (same : t.capture.resetsTaken = s.capture.resetsTaken ∧ t.delivery.resetsTaken = s.delivery.resetsTaken)
    (ended : t.delivery.drain = none) : CaptureSound t := by
  obtain ⟨-, nodup, -, agree⟩ := (captureSound_iff s).mp sound
  obtain ⟨-, absent⟩ := sound.drainUnit drain inStep
  have kept : s.capture.drainQueue.filter (fun v => v != d.unit) = s.capture.drainQueue :=
    List.filter_eq_self.mpr fun v mem => by
      have other : v ≠ d.unit := fun this => absent (this ▸ mem)
      simpa using other
  rw [kept, or_self] at queue
  refine sound.replaceUnit d.unit unit units (by rwa [queue]) ?_ (fun v _ => by rw [queue])
    (agree.end_ drain inStep units apart.2 same ended)
  rw [queue]
  exact iff_of_false absent apart.1

/-- R111: the unit of an ended drain aborted. -/
theorem endAborted_captureSound {s : State} {d : Drain} (sound : CaptureSound s) (drain : s.delivery.drain = some d)
    (inStep : s.delivery.resetsTaken = s.capture.resetsTaken) : CaptureSound (endDrain (abortUnit d.unit s)) :=
  endDrain_captureSound sound drain inStep cleared_unitSound ⟨nofun, nofun⟩ rfl (.inr rfl) ⟨rfl, rfl⟩ rfl

/-- R107: the unit of a completed drain. -/
theorem endDelivered_captureSound {s : State} {d : Drain} (sound : CaptureSound s) (drain : s.delivery.drain = some d)
    (inStep : s.delivery.resetsTaken = s.capture.resetsTaken) : CaptureSound (endDrain (deliverUnit d.unit s)) := by
  unfold deliverUnit
  split
  · obtain ⟨unit, apart⟩ := releasedRuntime_sound s.capture.configs[d.unit] s.capture.nextRecord
    exact endDrain_captureSound sound drain inStep unit apart rfl (.inl rfl) ⟨rfl, rfl⟩ rfl
  · obtain ⟨draining, -⟩ := sound.drainUnit drain inStep
    have settled := sound.1 d.unit
    rw [UnitRuntime.Sound, draining] at settled
    exact endDrain_captureSound sound drain inStep (r := { s.capture.units[d.unit] with state := .delivered }) settled
      ⟨nofun, nofun⟩ rfl (.inl rfl) ⟨rfl, rfl⟩ rfl

/-- R110: the unit of a broken drain back at the head of the drain queue. -/
theorem endReturned_captureSound {s : State} {d : Drain} (sound : CaptureSound s) (drain : s.delivery.drain = some d)
    (inStep : s.delivery.resetsTaken = s.capture.resetsTaken) : CaptureSound (endDrain (returnUnit d.unit s)) := by
  obtain ⟨units, nodup, -, agree⟩ := (captureSound_iff s).mp sound
  obtain ⟨draining, absent⟩ := sound.drainUnit drain inStep
  have settled := units d.unit
  rw [UnitRuntime.Sound, draining] at settled
  refine sound.replaceUnit d.unit (r := { s.capture.units[d.unit] with state := .held }) settled rfl
    (List.nodup_cons.mpr ⟨absent, nodup⟩) ?_ ?_ (agree.end_ drain inStep rfl nofun ⟨rfl, rfl⟩ rfl)
  · simp [endDrain, returnUnit]
  · intro v other
    simp [endDrain, returnUnit, other]

theorem deliveryInStep_iff (s : State) : deliveryInStep s = true ↔ s.delivery.resetsTaken = s.capture.resetsTaken := by
  simp [deliveryInStep]

/-- R113: the drain dropped while the two blocks are out of step. -/
theorem dropDrain_captureSound {s : State} (sound : CaptureSound s)
    (outOfStep : s.delivery.resetsTaken ≠ s.capture.resetsTaken) : CaptureSound (endDrain s) := by
  obtain ⟨units, nodup, queue, one, -, behind, -⟩ := sound
  exact ⟨units, nodup, queue, one, fun inStep => absurd inStep outOfStep, behind, fun _ => rfl⟩

/-- R110, R111, R113: a drain broken by link loss. -/
theorem breakDrain_captureSound {s : State} {d : Drain} (sound : CaptureSound s) (drain : s.delivery.drain = some d) :
    CaptureSound (breakDrain d s) := by
  unfold breakDrain
  split
  · next outOfStep =>
    rw [Bool.not_eq_true', ← Bool.not_eq_true, deliveryInStep_iff] at outOfStep
    exact dropDrain_captureSound sound outOfStep
  · next inStep =>
    rw [Bool.not_eq_true', Bool.not_eq_false, deliveryInStep_iff] at inStep
    split
    · exact endAborted_captureSound sound drain inStep
    · exact endReturned_captureSound sound drain inStep

/-- R106 to R109: the completion of the current frame, the two blocks in step. -/
theorem frameCompleted_captureSound {s : State} {d : Drain} (r : CaptureRecord) (sound : CaptureSound s)
    (drain : s.delivery.drain = some d) (inStep : s.delivery.resetsTaken = s.capture.resetsTaken) :
    CaptureSound (frameCompleted d r s) := by
  have offered {e : Drain} (same : e.unit = d.unit) : CaptureSound (s.setDelivery { s.delivery with drain := some e }) :=
    sound.congr ⟨rfl, rfl, rfl, rfl, by simp [drain, same]⟩
  have delivered : CaptureSound (raise .captureDelivered s) := sound.congr (by simp)
  unfold frameCompleted
  dsimp only
  split
  · split
    · exact offered rfl
    · exact offered rfl
  · split
    · exact offered rfl
    · split
      · exact offered rfl
      · exact offered rfl
  · exact endAborted_captureSound sound drain inStep
  · split
    · exact endAborted_captureSound delivered (by simpa using drain) (by simpa using inStep)
    · exact endDelivered_captureSound delivered (by simpa using drain) (by simpa using inStep)

/-- R113: the completion of the current frame, the two blocks out of step. -/
theorem frameCompletedAlone_captureSound {s : State} {d : Drain} (sound : CaptureSound s)
    (drain : s.delivery.drain = some d) (outOfStep : s.delivery.resetsTaken ≠ s.capture.resetsTaken) :
    CaptureSound (frameCompletedAlone d s) := by
  unfold frameCompletedAlone
  split
  · exact sound
  · exact sound.congr ⟨rfl, rfl, rfl, rfl, by simp [drain]⟩
  · exact dropDrain_captureSound sound outOfStep
  · exact dropDrain_captureSound (sound.congr (by simp)) (by simpa using outOfStep)

theorem takeCaptureCompletion_captureSound {s : State} (sound : CaptureSound s) :
    CaptureSound (takeCaptureCompletion s) := by
  unfold takeCaptureCompletion
  split
  · next void rest _ =>
    have taken : CaptureSound (s.setDelivery { s.delivery with inbox := rest }) := sound
    dsimp only
    split
    · exact taken
    · next d drain =>
      split
      · exact taken
      · split
        · next inStep =>
          split
          · exact taken
          · exact frameCompleted_captureSound _ taken drain ((deliveryInStep_iff _).mp inStep)
        · next outOfStep => exact frameCompletedAlone_captureSound taken drain (mt (deliveryInStep_iff _).mpr outOfStep)
  · exact sound

/-- R108: the cut mark set. -/
theorem cutDrain_captureSound {s : State} (u : Fin 4) (sound : CaptureSound s) : CaptureSound (cutDrain u s) := by
  refine sound.congr ⟨rfl, rfl, rfl, rfl, ?_⟩
  cases drain : s.delivery.drain with
  | none => simp [cutDrain, drain]
  | some d =>
    simp only [cutDrain, State.setDelivery_delivery, drain, Option.map_some]
    split <;> rfl

/-- The start of a frame marks the drain's frame, and leaves its unit. -/
@[simp] theorem arbitrate_drainUnit (s : State) :
    (arbitrate s).delivery.drain.map (·.unit) = s.delivery.drain.map (·.unit) := by
  obtain wait | ⟨src, f, -, -, start⟩ := arbitrate_cases s
  · rw [wait]
  · rw [start]
    cases src with
    | alert =>
      simp only [started, markStarted]
      split <;> rfl
    | delivery => simp [started, markStarted, Function.comp_def]
    | training | reply | stream => rfl

theorem arbitrate_captureSound {s : State} (sound : CaptureSound s) : CaptureSound (arbitrate s) :=
  sound.congr (by simp)

/-! ### Soft resets (R96, R113) -/

theorem resetCapture_captureSound {s : State} (sound : CaptureSound s) : CaptureSound (resetCapture s) := by
  obtain ⟨-, -, -, -, -, -, ahead⟩ := sound
  have cleared (u : Fin 4) : (resetCapture s).capture.units[u.val] = UnitRuntime.cleared := by simp [resetCapture]
  have none (u : Fin 4) : (resetCapture s).capture.units[u.val].state ≠ .draining := by simp [cleared, UnitRuntime.cleared]
  refine ⟨fun u => ?_, List.nodup_nil, fun u => ?_, fun u v draining => absurd draining (none u), fun inStep u => ?_,
    fun _ => none, fun further => ?_⟩
  · rw [cleared]
    exact cleared_unitSound
  · simp [resetCapture, UnitRuntime.cleared]
  · have idle : s.delivery.drain = .none := ahead (by simp [resetCapture] at inStep; omega)
    exact iff_of_false (none u) (by simp [resetCapture, idle])
  · exact ahead (by simp [resetCapture] at further; omega)

theorem resetDelivery_captureSound {s : State} (sound : CaptureSound s) : CaptureSound (resetDelivery s) := by
  obtain ⟨units, nodup, queue, one, -, behind, -⟩ := sound
  refine (captureSound_iff _).mpr ⟨by simpa [resetDelivery] using units, by simpa [resetDelivery] using nodup,
    by simpa [resetDelivery] using queue, by simpa [resetDelivery] using one, fun inStep u => ?_, fun further => ?_, ?_⟩
  · have none := behind (by simp [resetDelivery] at inStep; omega) u
    simp [resetDelivery, none]
  · simpa [resetDelivery] using behind (by simp [resetDelivery] at further; omega)
  · simp [resetDelivery]

theorem reset_captureSound : CaptureSound State.reset := by
  refine ⟨fun u => ?_, by decide, by decide, by decide, by decide, by decide, by decide⟩
  fin_cases u <;> rfl

/-- Every command keeps the units, the drain queue and the drain in agreement. -/
theorem exec_captureSound (c : Instr) (s t : State) (sound : CaptureSound s) (executed : exec c s = .next t) :
    CaptureSound t := by
  have event {u : State} (same : CaptureSound u) : CaptureSound (arbitrate u) := arbitrate_captureSound same
  have answered {u : State} (st : Status) (r : ReplyContent) (same : CaptureSound u) : CaptureSound (finishHead st r u) :=
    same.congr (by simp)
  have refused (st : Status) : CaptureSound (refuse st s) := answered st _ sound
  have request (row : RequestRow) {act : Request → State → State} (acted : ∀ q, CaptureSound (act q s)) :
      CaptureSound (execHead row act s) :=
    execHead_keeps CaptureSound sound (fun q _ _ _ => acted q) fun _ => event
  have bad : CaptureSound (badFrame s) :=
    badFrame_keeps CaptureSound sound (fun _ => sound) (sound.congr (by simp)) fun _ _ => sound.congr (by simp)
  cases c <;> cases executed
  case coldReset => exact reset_captureSound.congr (by simp [coldReset])
  case arm =>
    exact request _ fun _ => arm_keeps _ refused fun u _ idle _ _ => answered _ _ (putUnit_captureSound u sound
      (armedRuntime_sound _ _) (.of_state idle (by decide)) (armedRuntime_apart _ _))
  case abort =>
    exact request _ fun _ => abort_keeps _ refused (fun u _ _ => answered _ _ (cutDrain_captureSound u sound))
      fun u _ other => answered _ _ (abortUnit_captureSound u sound other)
  case release =>
    exact request _ fun _ => release_keeps _ refused fun u _ delivered => answered _ _ (putUnit_captureSound u sound
      (releasedRuntime_sound _ _).1 (.of_state delivered (by decide)) (releasedRuntime_sound _ _).2)
  case replay =>
    exact request _ fun _ => replay_keeps _ refused fun u _ delivered => answered _ _ (replay_captureSound u sound delivered)
  case captureRecordTake =>
    exact captureRecordTake_keeps _ sound fun o rest _ _ => unitsTake_captureSound o.record (sound.congr ⟨rfl, rfl, rfl, rfl, rfl⟩)
  case fireRequest =>
    exact fireRequest_keeps _ sound fun f rest _ => takeFire_captureSound f (sound.congr ⟨rfl, rfl, rfl, rfl, rfl⟩)
  case drainStart => exact drainStart_keeps _ sound fun _ _ _ may queued _ => event (startDrain_captureSound sound may queued)
  case captureFrameCompletion =>
    exact captureFrameCompletion_keeps _ sound fun _ _ _ => event (takeCaptureCompletion_captureSound sound)
  case linkLossDelivery =>
    exact linkLossDelivery_keeps _ sound (fun _ _ _ => sound.congr (by simp)) fun _ d _ drain =>
      breakDrain_captureSound (sound.congr (by simp)) (by simpa using drain)
  case transmissionCompletion first =>
    exact transmissionCompletion_keeps _ first sound (fun t _ => sound.congr (by simp))
      (fun _ => takeCaptureCompletion_captureSound) (fun _ same => same.congr (by simp)) (fun _ same => same.congr (by simp))
      fun _ => event
  case softResetCaptureController => exact takeReset_keeps _ sound (resetCapture_captureSound sound)
  case softResetDeliveryEngine => exact takeReset_keeps _ sound (resetDelivery_captureSound sound)
  case softResetConditionEngine => exact takeReset_keeps _ sound (sound.congr (by simp [resetConditions]))
  case softResetEpochTimer | softResetChannelProcessor | softResetStreamForwarder | softResetAlertUnit =>
    exact takeReset_keeps _ sound (sound.congr (by simp))
  case linkLossManagement => exact linkLossManagement_keeps _ sound fun _ _ _ lost => sound.congr (by simp [lost])
  case linkLossOfSignal => exact linkLossOfSignal_keeps _ sound (sound.congr (by simp))
  case badFrame => exact bad
  case requestFrame tag body =>
    exact requestFrame_keeps _ tag body sound (fun _ => sound) (fun _ _ => sound.congr (by simp)) bad
  case creditFrame count => exact creditFrame_keeps _ count sound (fun _ => sound) fun _ => event (sound.congr (by simp))
  case walk => exact walk_keeps _ sound fun _ _ _ _ => event (sound.congr (by simp))
  case fireAnswer => exact fireAnswer_keeps _ sound fun _ _ _ => event (sound.congr (by simp))
  case softResetDone => exact softResetDone_keeps _ sound fun _ _ => event (answered _ _ sound)
  case streamRecordTake => exact streamRecordTake_keeps _ sound fun _ _ _ _ => event (sound.congr (by simp))
  case streamFrameCompletion => exact streamFrameCompletion_keeps _ sound fun _ _ _ => event (sound.congr (by simp))
  case linkLossStream => exact linkLossStream_keeps _ sound fun _ _ _ lost => sound.congr (by simp [lost])
  case alertRaise src => exact alertRaise_keeps _ src sound fun _ => event (sound.congr (by simp))
  case reAnnounceTimerExpiry => exact reAnnounceTimerExpiry_keeps _ sound fun _ => event (sound.congr (by simp))
  case alertFrameCompletion =>
    exact alertFrameCompletion_keeps _ sound (fun _ _ _ => sound) (fun _ _ _ _ => event (sound.congr (by simp)))
      fun _ _ _ _ => event (sound.congr (by simp))
  case linkLossAlert => exact linkLossAlert_keeps _ sound fun _ _ _ lost => event (sound.congr (by simp [lost]))
  case alertAck => exact ackHead_keeps _ sound (request _ fun _ => sound.congr (by simp))
  case epochStart => exact request _ fun _ => epochStart_keeps _ refused fun _ => answered _ _ (sound.congr (by simp))
  case epochStop => exact request _ fun _ => epochStop_keeps _ refused fun _ => answered _ _ (sound.congr (by simp))
  case writeChannel =>
    exact request _ fun _ => writeChannel_keeps _ refused fun _ _ _ _ => answered _ _ (sound.congr (by simp))
  case writeControl =>
    exact request _ fun _ => writeControl_keeps _ refused fun _ _ _ _ => answered _ _ (sound.congr (by simp))
  case writeUnit => exact request _ fun _ => writeUnit_keeps _ refused fun _ _ _ _ => answered _ _ (sound.congr (by simp))
  case read | readChannelRuntime | write | writeLevel | writeCondition | writeTrigger | commit | discardEdits | fire |
      status | unknownKind | reset => exact request _ fun _ => sound.congr (by simp)
  all_goals exact sound.congr (by simp)

/-! ### The regions of the units outside IDLE (R72, R80) -/

/-- The configurations stay, and an IDLE unit stays IDLE. -/
def NoneLeavesIdle (s t : State) : Prop :=
  t.capture.configs = s.capture.configs ∧
  ∀ u : Fin 4, s.capture.units[u.val].state = .idle → t.capture.units[u.val].state = .idle

theorem NoneLeavesIdle.of_units {s t : State}
    (same : t.capture.configs = s.capture.configs ∧ t.capture.units = s.capture.units) : NoneLeavesIdle s t :=
  ⟨same.1, fun u idle => by rwa [same.2]⟩

theorem NoneLeavesIdle.congr {s t v : State} (stay : NoneLeavesIdle s t)
    (same : v.capture.configs = t.capture.configs ∧ v.capture.units = t.capture.units) : NoneLeavesIdle s v :=
  ⟨same.1.trans stay.1, fun u idle => by
    rw [same.2]
    exact stay.2 u idle⟩

theorem NoneLeavesIdle.trans {s t v : State} (first : NoneLeavesIdle s t) (second : NoneLeavesIdle t v) :
    NoneLeavesIdle s v :=
  ⟨second.1.trans first.1, fun u idle => second.2 u (first.2 u idle)⟩

/-- Only one unit moves, and it was not IDLE or is IDLE after it. -/
theorem NoneLeavesIdle.of_others {s t : State} (u : Fin 4) (configs : t.capture.configs = s.capture.configs)
    (others : ∀ v, v ≠ u → t.capture.units[v.val] = s.capture.units[v.val])
    (moved : s.capture.units[u.val].state ≠ .idle ∨ t.capture.units[u.val].state = .idle) : NoneLeavesIdle s t := by
  refine ⟨configs, fun v idle => ?_⟩
  by_cases this : v = u
  · subst this
    exact moved.resolve_left (not_not.mpr idle)
  · rwa [others v this]

/-- A unit replaced that was not IDLE, or is IDLE after it. -/
theorem NoneLeavesIdle.of_put {s t : State} (u : Fin 4) {r : UnitRuntime}
    (same : t.capture.configs = s.capture.configs ∧ t.capture.units = Table.put s.capture.units u r)
    (moved : s.capture.units[u.val].state ≠ .idle ∨ r.state = .idle) : NoneLeavesIdle s t := by
  obtain ⟨configs, units⟩ := same
  exact .of_others u configs (fun v other => by simp [units, other]) (by simpa [units] using moved)

theorem RegionsDisjoint.kept {s t : State} (apart : RegionsDisjoint s) (stay : NoneLeavesIdle s t) :
    RegionsDisjoint t := by
  obtain ⟨configs, idle⟩ := stay
  intro u v other busyU busyV
  rw [configs]
  exact apart u v other (mt (idle u) busyU) (mt (idle v) busyV)

theorem overlaps_comm (a b : UnitConfig) : a.overlaps b = b.overlaps a := by
  simp only [UnitConfig.overlaps, max_comm, min_comm]

/-- R80: ARM is refused when the unit's region overlaps that of a unit outside IDLE. -/
theorem putUnit_regionsDisjoint {s : State} (u : Fin 4) (r : UnitRuntime) (apart : RegionsDisjoint s)
    (free : overlapsOther s u = false) : RegionsDisjoint (putUnit u r s) := by
  have clear (v : Fin 4) (other : v ≠ u) (busy : s.capture.units[v.val].state ≠ .idle) :
      s.capture.configs[u.val].overlaps s.capture.configs[v.val] = false := by
    simp only [overlapsOther, List.any_eq_false, List.mem_finRange, forall_true_left] at free
    simpa [other, busy] using free v
  intro v w other busyV busyW
  by_cases isV : v = u
  · subst isV
    exact clear w other.symm (by simpa [other.symm] using busyW)
  · have stayedV : s.capture.units[v.val].state ≠ .idle := by simpa [isV] using busyV
    by_cases isW : w = u
    · subst isW
      exact (overlaps_comm _ _).trans (clear v other stayedV)
    · exact apart v w other stayedV (by simpa [isW] using busyW)

/-- R74: a unit's configuration is written in IDLE alone. -/
theorem writeUnit_regionsDisjoint {s t : State} (u : Fin 4) {cfg : UnitConfig} (apart : RegionsDisjoint s)
    (idle : s.capture.units[u.val].state = .idle)
    (same : t.capture.configs = Table.put s.capture.configs u cfg ∧ t.capture.units = s.capture.units) :
    RegionsDisjoint t := by
  obtain ⟨configs, units⟩ := same
  intro v w other busyV busyW
  rw [units] at busyV busyW
  have isV : v ≠ u := fun this => busyV (this ▸ idle)
  have isW : w ≠ u := fun this => busyW (this ▸ idle)
  simpa [configs, isV, isW] using apart v w other busyV busyW

theorem unitsTake_noneLeavesIdle (rec : EpochRecord) (s : State) : NoneLeavesIdle s (unitsTake rec s) := by
  refine ⟨by simp [unitsTake_eq], fun u idle => ?_⟩
  simp [unitsTake_eq, unitTakes, idle]

theorem takeFire_noneLeavesIdle (f : FireRequest) (s : State) : NoneLeavesIdle s (takeFire f s) := by
  have missed : NoneLeavesIdle s (returnAnswer f .missed s) := .of_units (by simp)
  unfold takeFire
  dsimp only
  cases state : s.capture.units[f.unit].state with
  | filling | armed =>
    have busy : s.capture.units[f.unit.val].state ≠ .idle := ne_of_eq_of_ne state (by decide)
    dsimp only
    split
    · split
      · exact missed
      · exact .of_others f.unit (by simp) (fun v other => by simp [startCapture, putFrozen_capture, other]) (.inl busy)
    · exact missed
  | post =>
    have busy : s.capture.units[f.unit.val].state ≠ .idle := ne_of_eq_of_ne state (by decide)
    exact .of_others f.unit (by simp) (fun v other => by simp [other]) (.inl busy)
  | idle | held | draining | delivered => exact missed

theorem endDelivered_noneLeavesIdle {s : State} {d : Drain} (draining : s.capture.units[d.unit.val].state = .draining) :
    NoneLeavesIdle s (endDrain (deliverUnit d.unit s)) := by
  have busy : s.capture.units[d.unit.val].state ≠ .idle := by simp [draining]
  unfold deliverUnit
  split
  · exact .of_put d.unit ⟨rfl, rfl⟩ (.inl busy)
  · exact .of_put d.unit ⟨rfl, rfl⟩ (.inl busy)

theorem frameCompleted_noneLeavesIdle {s : State} {d : Drain} (r : CaptureRecord)
    (draining : s.capture.units[d.unit.val].state = .draining) : NoneLeavesIdle s (frameCompleted d r s) := by
  have offered (t : State) (same : t.capture = s.capture) : NoneLeavesIdle s t := .of_units (by simp [same])
  unfold frameCompleted
  dsimp only
  split
  · split <;> exact offered _ rfl
  · split
    · exact offered _ rfl
    · split <;> exact offered _ rfl
  · exact .of_put d.unit ⟨rfl, rfl⟩ (.inr rfl)
  · split
    · exact .of_put d.unit (r := UnitRuntime.cleared) (by simp) (.inr rfl)
    · obtain ⟨-, idle⟩ := endDelivered_noneLeavesIdle (s := raise .captureDelivered s) (by simpa using draining)
      exact ⟨by simp, idle⟩

theorem takeCaptureCompletion_noneLeavesIdle {s : State} (sound : CaptureSound s) :
    NoneLeavesIdle s (takeCaptureCompletion s) := by
  have kept (t : State) (same : t.capture = s.capture) : NoneLeavesIdle s t := .of_units (by simp [same])
  unfold takeCaptureCompletion
  split
  · dsimp only
    split
    · exact kept _ rfl
    · next d drain =>
      split
      · exact kept _ rfl
      · split
        · next inStep =>
          split
          · exact kept _ rfl
          · exact frameCompleted_noneLeavesIdle _ (sound.drainUnit drain ((deliveryInStep_iff _).mp inStep)).1
        · exact kept _ (by simp)
  · exact kept _ rfl

theorem breakDrain_noneLeavesIdle {s : State} {d : Drain} (sound : CaptureSound s) (drain : s.delivery.drain = some d) :
    NoneLeavesIdle s (breakDrain d s) := by
  unfold breakDrain
  split
  · exact .of_units ⟨rfl, rfl⟩
  · next inStep =>
    rw [Bool.not_eq_true', Bool.not_eq_false, deliveryInStep_iff] at inStep
    obtain ⟨draining, -⟩ := sound.drainUnit drain inStep
    split
    · exact .of_put d.unit ⟨rfl, rfl⟩ (.inr rfl)
    · exact .of_put d.unit ⟨rfl, rfl⟩ (.inl (by simp [draining]))

/-- Every command keeps the regions of the units outside IDLE apart. -/
theorem exec_regionsDisjoint (c : Instr) (s t : State) (sound : CaptureSound s) (apart : RegionsDisjoint s)
    (executed : exec c s = .next t) : RegionsDisjoint t := by
  have kept {u : State} (same : u.capture.configs = s.capture.configs ∧ u.capture.units = s.capture.units) :
      RegionsDisjoint u := apart.kept (.of_units same)
  have moved {u v : State} (stay : NoneLeavesIdle s u)
      (same : v.capture.configs = u.capture.configs ∧ v.capture.units = u.capture.units) : RegionsDisjoint v :=
    apart.kept (stay.congr same)
  have refused (st : Status) : RegionsDisjoint (refuse st s) := kept (by simp)
  have request (row : RequestRow) {act : Request → State → State} (acted : ∀ q, RegionsDisjoint (act q s)) :
      RegionsDisjoint (execHead row act s) :=
    execHead_keeps RegionsDisjoint apart (fun q _ _ _ => acted q) fun _ same => same.kept (.of_units (by simp))
  cases c <;> cases executed
  case coldReset => exact fun u v _ busy => absurd (by fin_cases u <;> rfl) busy
  case arm =>
    exact request _ fun _ => arm_keeps _ refused fun u _ _ _ free =>
      (putUnit_regionsDisjoint u (armedRuntime s.capture.configs[u] s.capture.nextRecord) apart free).kept
        (.of_units (by simp))
  case abort =>
    exact request _ fun _ => abort_keeps _ refused (fun _ _ _ => kept (by simp))
      fun u _ _ => moved (.of_put u (t := abortUnit u s) ⟨rfl, rfl⟩ (.inr rfl)) (by simp)
  case release =>
    exact request _ fun _ => release_keeps _ refused fun u _ delivered =>
      moved (.of_put u (t := releaseUnit u s) ⟨rfl, rfl⟩ (.inl (ne_of_eq_of_ne delivered (by decide)))) (by simp)
  case replay =>
    exact request _ fun _ => replay_keeps _ refused fun u _ delivered =>
      apart.kept (.of_put u (by simp [putFrozen_capture]; rfl) (.inl (ne_of_eq_of_ne delivered (by decide))))
  case writeUnit =>
    exact request _ fun _ => writeUnit_keeps _ refused fun u cfg _ idle =>
      writeUnit_regionsDisjoint u (cfg := cfg) apart idle (by simp)
  case captureRecordTake =>
    exact captureRecordTake_keeps _ apart fun o rest _ _ => apart.kept (.trans
      (t := s.setCapture { s.capture with records := rest, nextRecord := o.record.epoch + 1 }) (.of_units ⟨rfl, rfl⟩)
      (unitsTake_noneLeavesIdle o.record _))
  case fireRequest =>
    exact fireRequest_keeps _ apart fun f rest _ => apart.kept (.trans
      (t := s.setCapture { s.capture with fires := rest }) (.of_units ⟨rfl, rfl⟩) (takeFire_noneLeavesIdle f _))
  case drainStart =>
    refine drainStart_keeps _ apart fun u rest r _ queued _ => ?_
    have held : s.capture.units[u.val].state = .held := (sound.2.2.1 u).mp (by simp [queued])
    exact moved (.of_put u (t := startDrain u rest r s) ⟨rfl, rfl⟩ (.inl (by simp [held]))) (by simp)
  case captureFrameCompletion =>
    exact captureFrameCompletion_keeps _ apart fun _ _ _ =>
      moved (takeCaptureCompletion_noneLeavesIdle sound) (by simp)
  case linkLossDelivery =>
    refine linkLossDelivery_keeps _ apart (fun _ _ _ => kept (by simp)) fun rest d _ drain => ?_
    obtain ⟨configs, idle⟩ := breakDrain_noneLeavesIdle (d := d)
      (s := giveUpFrames .delivery (s.setDelivery { s.delivery with inbox := rest }))
      (sound.congr (by simp)) (by simpa using drain)
    exact apart.kept ⟨by simpa using configs, by simpa using idle⟩
  case transmissionCompletion first =>
    have both := transmissionCompletion_keeps (fun u => CaptureSound u ∧ RegionsDisjoint u) first ⟨sound, apart⟩
      (fun t _ => ⟨sound.congr (by simp), kept (by simp)⟩)
      (fun _ held => ⟨takeCaptureCompletion_captureSound held.1,
        held.2.kept (takeCaptureCompletion_noneLeavesIdle held.1)⟩)
      (fun _ held => ⟨held.1.congr (by simp), held.2.kept (.of_units (by simp))⟩)
      (fun _ held => ⟨held.1.congr (by simp), held.2.kept (.of_units (by simp))⟩)
      fun _ held => ⟨arbitrate_captureSound held.1, held.2.kept (.of_units (by simp))⟩
    exact both.2
  case softResetCaptureController =>
    exact takeReset_keeps _ apart (apart.kept ⟨rfl, fun u _ => by simp [resetCapture, UnitRuntime.cleared]⟩)
  case softResetConditionEngine => exact takeReset_keeps _ apart (kept (by simp [resetConditions]))
  case softResetEpochTimer | softResetChannelProcessor | softResetDeliveryEngine | softResetStreamForwarder |
      softResetAlertUnit => exact takeReset_keeps _ apart (kept (by simp))
  case alertAck => exact ackHead_keeps _ apart (request _ fun _ => kept (by simp))
  case epochStart => exact request _ fun _ => epochStart_keeps _ refused fun _ => kept (by simp)
  case epochStop => exact request _ fun _ => epochStop_keeps _ refused fun _ => kept (by simp)
  case writeChannel => exact request _ fun _ => writeChannel_keeps _ refused fun _ _ _ _ => kept (by simp)
  case writeControl => exact request _ fun _ => writeControl_keeps _ refused fun _ _ _ _ => kept (by simp)
  case read | readChannelRuntime | write | writeLevel | writeCondition | writeTrigger | commit | discardEdits | fire |
      status | unknownKind | reset => exact request _ fun _ => kept (by simp)
  all_goals exact kept (by simp)

end Sys2Proof.Machine

namespace Sys2Proof.Proofs.CaptureSound
open Sys2Proof.Machine

/-- Settles O57: every command keeps the units, the drain queue and the drain in agreement. -/
theorem stepKeepsCaptureSound : Obligations.StepKeepsCaptureSound := fun _ _ =>
  step_keeps (P := CaptureSound) (fun _ _ => id) exec_captureSound

/-- Settles O58: only ARM brings a region in use, and it looks at all the others first. -/
theorem stepKeepsRegionsDisjoint : Obligations.StepKeepsRegionsDisjoint := fun _ t sound apart stepped =>
  (step_keeps (P := fun u => CaptureSound u ∧ RegionsDisjoint u) (t := t) (fun _ _ => id)
    (fun c u v held executed => ⟨exec_captureSound c u v held.1 executed, exec_regionsDisjoint c u v held.1 held.2 executed⟩)
    ⟨sound, apart⟩ stepped).2

end Sys2Proof.Proofs.CaptureSound
end

section
/-! The queue of commands, the commands whose event cannot occur, and the state after reset. -/

namespace Sys2Proof.Machine

/-- Every command answers a next state. -/
theorem exec_next (c : Instr) (s : State) : ∃ t, exec c s = .next t := by
  cases c <;> exact ⟨_, rfl⟩

/-- No command touches the queue of commands. -/
theorem exec_pending (c : Instr) (s t : State) (executed : exec c s = .next t) : t.pending = s.pending := by
  have request (row : RequestRow) {act : Request → State → State} (acted : ∀ q, (act q s).pending = s.pending) :
      (execHead row act s).pending = s.pending :=
    execHead_keeps (fun u => u.pending = s.pending) rfl (fun q _ _ _ => acted q) fun _ same => by simpa using same
  cases c <;> cases executed
  case coldReset => rfl
  case alertAck => exact ackHead_keeps (fun u => u.pending = s.pending) rfl (request _ (by simp))
  case epochStart | epochStop | read | readChannelRuntime | write | writeControl | writeChannel | writeLevel |
      writeCondition | writeTrigger | writeUnit | commit | discardEdits | arm | abort | release | replay | fire | status |
      unknownKind | reset => exact request _ (by simp)
  case softResetEpochTimer | softResetConditionEngine | softResetChannelProcessor | softResetCaptureController |
      softResetDeliveryEngine | softResetStreamForwarder | softResetAlertUnit =>
    exact takeReset_keeps (fun u => u.pending = s.pending) rfl (by simp)
  all_goals simp

/-! ### Commands whose event cannot occur (log entry 1) -/

/-- No row of a request is executed when no request of the row stands at an idle head. -/
theorem execHead_wait {row : RequestRow} {s : State} (act : Request → State → State)
    (none : ∀ q rest, ¬Executes row q rest s) : execHead row act s = s := by
  obtain wait | ⟨q, rest, idle, queued, isRow, -⟩ := execHead_cases row act s
  · exact wait
  · exact absurd ⟨idle, queued, isRow⟩ (none q rest)

/-- A block that has taken every soft reset takes none. -/
theorem takeReset_taken {taken : Nat} {s : State} (act : State → State) (all : s.mgmt.resetsIssued ≤ taken) :
    takeReset taken act s = s := if_neg (Nat.not_lt.mpr all)

variable {s : State}

theorem walk_wait (none : ∀ o rest, s.conditions.records = o :: rest → o.run ≠ s.conditions.resetsTaken) : walk s = s :=
  walk_keeps (· = s) rfl fun o rest waiting run => absurd run (none o rest waiting)

theorem captureRecordTake_wait (none : ∀ o rest, s.capture.records = o :: rest → o.run ≠ s.capture.resetsTaken) :
    captureRecordTake s = s :=
  captureRecordTake_keeps (· = s) rfl fun o rest waiting run => absurd run (none o rest waiting)

theorem streamRecordTake_wait (none : ∀ o rest, s.stream.records = o :: rest → o.run ≠ s.stream.resetsTaken) :
    streamRecordTake s = s :=
  streamRecordTake_keeps (· = s) rfl fun o rest waiting run => absurd run (none o rest waiting)

/-- R100, R113: a drain starts only with the engine IDLE, the link UP with no loss still to take, a unit in the drain
queue, and the blocks in step. -/
theorem drainStart_wait
    (wait : s.delivery.drain ≠ none ∨ s.link.state ≠ .up ∨ s.capture.drainQueue = [] ∨
      LinkReport.linkLoss ∈ s.delivery.inbox ∨ s.delivery.resetsTaken ≠ s.capture.resetsTaken) : drainStart s = s := by
  refine drainStart_keeps (· = s) rfl fun u rest r may queued _ => absurd wait ?_
  simp only [mayStartDrain, deliveryInStep, lossWaits, Bool.and_eq_true, Option.isNone_iff_eq_none, beq_iff_eq,
    Bool.not_eq_true', List.contains_eq_mem, decide_eq_false_iff_not] at may
  obtain ⟨⟨⟨idle, up⟩, told⟩, inStep⟩ := may
  simp [idle, up, told, inStep, queued]

theorem alertFrameCompletion_wait (none : ∀ v rest, s.alerts.inbox ≠ .completion v :: rest) :
    alertFrameCompletion s = s :=
  alertFrameCompletion_keeps (· = s) rfl (fun v rest reported => absurd reported (none v rest))
    (fun v rest reported => absurd reported (none v rest)) fun v rest reported => absurd reported (none v rest)

theorem transmissionCompletion_wait (idle : s.link.tx = none) (first : Bool) : transmissionCompletion first s = s := by
  rw [transmissionCompletion, idle]

theorem requestArrival_wait (none : ∀ r rest, s.mgmt.inbox ≠ .request r :: rest) : requestArrival s = s :=
  requestArrival_keeps (· = s) rfl (fun r rest reported => absurd reported (none r rest))
    fun r rest reported => absurd reported (none r rest)

theorem replyCompletion_wait (none : ∀ v rest, s.mgmt.inbox ≠ .completion v :: rest) : replyCompletion s = s :=
  replyCompletion_keeps (· = s) rfl (fun rest _ _ reported => absurd reported (none false rest))
    fun v rest reported => absurd reported (none v rest)

theorem linkLossDelivery_wait (none : ∀ rest, s.delivery.inbox ≠ .linkLoss :: rest) : linkLossDelivery s = s :=
  linkLossDelivery_keeps (· = s) rfl (fun rest reported => absurd reported (none rest))
    fun rest _ reported => absurd reported (none rest)

/-- No request of a row at the head: the command of the row, ALERT-ACK too, waits. -/
theorem request_wait (p : Instr × RequestRow)
    (listed : p ∈ [(Instr.epochStart, RequestRow.epochStart), (.epochStop, .epochStop), (.read, .read),
      (.readChannelRuntime, .readChannelRuntime), (.write, .write), (.writeControl, .writeControl),
      (.writeChannel, .writeChannel), (.writeLevel, .writeLevel), (.writeCondition, .writeCondition),
      (.writeTrigger, .writeTrigger), (.writeUnit, .writeUnit), (.commit, .commit),
      (.discardEdits, .discardEdits), (.arm, .arm), (.abort, .abort), (.release, .release), (.replay, .replay),
      (.fire, .fire), (.alertAck, .alertAck), (.status, .status), (.unknownKind, .unknownKind), (.reset, .reset)])
    (none : ∀ q rest, ¬Executes p.2 q rest s) : exec p.1 s = .next s := by
  simp only [List.mem_cons, List.not_mem_nil, or_false] at listed
  rcases listed with rfl | rfl | rfl | rfl | rfl | rfl | rfl | rfl | rfl | rfl | rfl | rfl | rfl | rfl | rfl | rfl | rfl |
    rfl | rfl | rfl | rfl | rfl
  pick_goal 19
  · exact congrArg _ (ackHead_keeps (· = s) rfl (execHead_wait _ none))
  all_goals exact congrArg _ (execHead_wait _ none)

end Sys2Proof.Machine

namespace Sys2Proof.Proofs.Commands
open Sys2Proof.Machine

/-- Settles O1: by the two cases of the queue. -/
theorem stepRunsFrontCommand : Obligations.StepRunsFrontCommand := by
  refine fun s => ⟨fun c rest waiting => ?_, fun empty => ?_⟩
  · rw [step, waiting]
    rfl
  · rw [step, empty]

/-- Settles O2: by the frame of every command. -/
theorem everyCommandCompletes : Obligations.EveryCommandCompletes := fun c s =>
  (exec_next c s).imp fun t executed => ⟨executed, exec_pending c s t executed⟩

/-- Settles O3: each command by what its event takes. -/
theorem eventsThatCannotOccur : Obligations.EventsThatCannotOccur := fun s => by
  have same {t : State} (wait : t = s) : (Host.Outcome.next t : Host.Outcome State Fault Refusal) = .next s := congrArg _ wait
  refine ⟨request_wait, fun stopped => same ?_, fun none => same (walk_wait none), fun none => same (captureRecordTake_wait none),
    fun none => same (streamRecordTake_wait none), fun none => same ?_, fun none => same ?_, fun none => same ?_,
    fun wait => same (drainStart_wait wait), fun none => same ?_, fun none => same ?_, fun a none => same ?_,
    fun stopped => same ?_, fun idle first => same (transmissionCompletion_wait idle first),
    fun none => same (requestArrival_wait none), fun none => same (replyCompletion_wait none), fun none => same ?_,
    fun none => same (linkLossDelivery_wait none), fun none => same ?_, fun none => same ?_,
    fun none => same (alertFrameCompletion_wait none), fun none => same ?_, fun all => same (takeReset_taken _ all),
    fun all => same (takeReset_taken _ all), fun all => same (takeReset_taken _ all), fun all => same (takeReset_taken _ all),
    fun all => same (takeReset_taken _ all), fun all => same (takeReset_taken _ all), fun all => same (takeReset_taken _ all)⟩
  · rw [periodExpiry, stopped]
  · rw [fireRequest, none]
  · rw [fireAnswer, none]
  · rw [decimationReload, none]
  · exact captureFrameCompletion_keeps (· = s) rfl fun v rest reported => absurd reported (none v rest)
  · exact streamFrameCompletion_keeps (· = s) rfl fun v rest reported => absurd reported (none v rest)
  · exact alertRaise_keeps (· = s) a rfl fun raised => absurd raised none
  · exact reAnnounceTimerExpiry_keeps (· = s) rfl fun runs => absurd runs (by simp [stopped])
  · exact linkLossManagement_keeps (· = s) rfl fun rest _ reported => absurd reported (none rest)
  · exact linkLossStream_keeps (· = s) rfl fun rest _ reported => absurd reported (none rest)
  · exact linkLossAlert_keeps (· = s) rfl fun rest _ reported => absurd reported (none rest)
  · exact softResetDone_keeps (· = s) rfl fun n waiting => absurd waiting (none n)

/-- Settles O4: both sides are the same values, written out. -/
theorem coldResetValues : Obligations.ColdResetValues := ⟨rfl, fun _ => rfl⟩

/-- Settles O51: each block at its cold-reset values. -/
theorem resetIsSound : Obligations.ResetIsSound := by
  refine ⟨⟨?_, ?_, ?_, ?_, reset_epochsSound, reset_captureSound⟩, fun u v _ busy => absurd (by fin_cases u <;> rfl) busy⟩
  · simp [State.reset, ManagementEngine.cold, RequestsSound]
  · simp [State.reset, LinkController.cold, LinkController.Sound]
  · simp [State.reset, AlertUnit.cold, AlertUnit.Sound]
  · simp [State.reset, StreamForwarder.cold, StreamForwarder.Sound, consecutive]

end Sys2Proof.Proofs.Commands
end

section
/-! Epochs and lanes (chapter 1): the opening, the close and the completeness test of an epoch, and what each symbol does
to a lane, as equations of whole states. -/

namespace Sys2Proof.Machine

variable {s t : State}

/-- Two states with the same blocks and the same queue of commands. -/
theorem State.eq_of_blocks (timer : s.timer = t.timer) (lanes : s.lanes = t.lanes) (channels : s.channels = t.channels)
    (conditions : s.conditions = t.conditions) (capture : s.capture = t.capture) (delivery : s.delivery = t.delivery)
    (stream : s.stream = t.stream) (alerts : s.alerts = t.alerts) (link : s.link = t.link) (mgmt : s.mgmt = t.mgmt)
    (pending : s.pending = t.pending) : s = t := by
  cases s
  cases t
  simp only at timer lanes channels conditions capture delivery stream alerts link mgmt pending
  rw [timer, lanes, channels, conditions, capture, delivery, stream, alerts, link, mgmt, pending]

theorem Table.put_put {α : Type} {n : Nat} (x : Table α n) (i : Fin n) (a b : α) :
    Table.put (Table.put x i a) i b = Table.put x i b := Vector.set_set _ _

/-! ### Expected sets and missing words (R5, R6) -/

/-- R6: the slots some enabled channel of the lane takes. -/
theorem has_expectedSet_iff (x : Table ChannelEntry 16) (l : Fin 4) (k : Fin 8) :
    has (expectedSet x l) k = true ↔
      ∃ c : Fin 16, x[c].enabled = true ∧ x[c].lane = l ∧ x[c].slot = k := by
  have members (e : ChannelEntry) : e ∈ x.toList ↔ ∃ c : Fin 16, x[c] = e := by
    rw [Vector.mem_toList_iff, Vector.mem_iff_getElem]
    exact ⟨fun ⟨i, small, at_⟩ => ⟨⟨i, small⟩, at_⟩, fun ⟨c, at_⟩ => ⟨c.val, c.isLt, at_⟩⟩
  simp only [expectedSet, has_ofFnLE, List.any_eq_true, members, Bool.and_eq_true, beq_iff_eq, and_assoc]
  exact ⟨fun ⟨_, ⟨c, rfl⟩, takes⟩ => ⟨c, takes⟩, fun ⟨c, takes⟩ => ⟨_, ⟨c, rfl⟩, takes⟩⟩

theorem owed_ne_zero_iff (s : State) (l : Fin 4) : owed s l ≠ 0 ↔
    ∃ k : Fin 8, has s.lanes[l].received k = false ∧ has (expectedSet s.channels.table l) k = true := by
  rw [Ne, show (owed s l = 0) = (owed s l = 0#8) from rfl, eq_zero_iff_has, owed]
  simp [and_comm]

theorem missingWord_iff (s : State) : missingWord s = true ↔
    ∃ (l : Fin 4) (k : Fin 8), has s.timer.participating l = true ∧ has s.lanes[l].received k = false ∧
      ∃ c : Fin 16, s.channels.table[c].enabled = true ∧ s.channels.table[c].lane = l ∧
        s.channels.table[c].slot = k := by
  simp only [missingWord, List.any_eq_true, List.mem_finRange, true_and, Bool.and_eq_true, bne_iff_ne, owed_ne_zero_iff,
    has_expectedSet_iff, exists_and_left]

/-! ### Opening and close (R1, R5, R7, R26, R34) -/

theorem completenessTest_eq (s : State) : completenessTest s =
    if s.timer.openEpoch ≠ none ∧ missingWord s = false then closeEpoch .complete s else s := by
  simp [completenessTest, Option.isSome_iff_ne_none]

/-- The record of a close, in each of the queues that are offered it. -/
theorem recordClose_eq (n : Epoch) (s : State) :
    let built := s.channels.resetsTaken ≤ s.timer.resetsTaken
    let record : Offered := { run := s.timer.resetsTaken, record := buildRecord s.channels n }
    let offered (taken : Nat) := if built ∧ taken ≤ s.timer.resetsTaken then [record] else []
    recordClose n s = { s with
      channels := { s.channels with
        openValues := Vector.replicate 16 none
        runtime := if built then (afterBuild s.channels n).runtime else s.channels.runtime }
      conditions := { s.conditions with records := s.conditions.records ++ offered s.conditions.resetsTaken }
      capture := { s.capture with records := s.capture.records ++ offered s.capture.resetsTaken }
      stream := { s.stream with records := s.stream.records ++ offered s.stream.resetsTaken } } := by
  intro built record offered
  unfold recordClose
  split
  · next isBuilt =>
    have offer (taken : Nat) : offered taken = if taken ≤ s.timer.resetsTaken then [record] else [] := by
      simp [offered, built, isBuilt]
    simp only [offer]
    apply State.eq_of_blocks
    case conditions => rw [offerRecord_conditions]; rfl
    case capture => rw [offerRecord_capture]; rfl
    case stream => rw [offerRecord_stream]; rfl
    case channels => simp [afterBuild]
    all_goals simp
  · next notBuilt => simp [offered, built, notBuilt]; rfl

/-- The close of the open epoch (R5). -/
theorem closeEpoch_eq {n : Epoch} (opened : s.timer.openEpoch = some n) (cause : CloseCause) :
    let built := s.channels.resetsTaken ≤ s.timer.resetsTaken
    let record : Offered := { run := s.timer.resetsTaken, record := buildRecord s.channels n }
    let offered (taken : Nat) := if built ∧ taken ≤ s.timer.resetsTaken then [record] else []
    closeEpoch cause s = { s with
      timer := { s.timer with openEpoch := none, lastClosed := some n, participating := 0 }
      channels := { s.channels with
        openValues := Vector.replicate 16 none
        runtime := if built then (afterBuild s.channels n).runtime else s.channels.runtime }
      lanes := emptyReceived s.lanes
      conditions := { s.conditions with records := s.conditions.records ++ offered s.conditions.resetsTaken }
      capture := { s.capture with records := s.capture.records ++ offered s.capture.resetsTaken }
      stream := { s.stream with records := s.stream.records ++ offered s.stream.resetsTaken }
      alerts := { s.alerts with
        raises := s.alerts.raises ++ if cause ≠ .complete ∧ missingWord s = true then [.sampleMissing] else [] } } := by
  intro built record offered
  simp only [closeEpoch, opened, recordClose_eq]
  split
  · rfl
  · simp only [List.append_nil]
    rfl

/-! ### Start, stop and swap (R2, R3, R4, R127, R129, R130) -/

variable {q : Request} {rest : List Request}

theorem epochStart_running (running : s.timer.state = .running) : epochStart q s = refuse .wrongState s := by
  rw [epochStart, running]

theorem startTimer_eq (s : State) :
    let o := openNext (s.setTimer { s.timer with state := .running, lastClosed := none })
    startTimer s = o.setTimer { o.timer with periodTimer := some s.mgmt.control.period } := by
  simp [startTimer]

theorem epochStart_stopped (stopped : s.timer.state = .stopped) :
    epochStart q s = finishHead .ok .nothing (startTimer s) := by
  rw [epochStart, stopped]

theorem epochStop_stopped (stopped : s.timer.state = .stopped) : epochStop q s = refuse .wrongState s := by
  rw [epochStop, stopped]

theorem epochStop_running (running : s.timer.state = .running) :
    epochStop q s = finishHead .ok .nothing (stopTimer s) := by
  rw [epochStop, running]

theorem periodExpiry_running {p : BitVec 16} (runs : s.timer.periodTimer = some p) :
    periodExpiry s = (openNext (closeEpoch .strobe s)).setTimer
      { (openNext (closeEpoch .strobe s)).timer with periodTimer := some s.mgmt.control.period } := by
  simp [periodExpiry, runs]

/-- R130: the deferred reply, if there is one, at the tail of the reply queue. -/
theorem releaseDeferred_eq (fromEpoch : Epoch) (s : State) : releaseDeferred fromEpoch s = { s with
    mgmt := { s.mgmt with
      deferred := none
      replies := s.mgmt.replies ++
        s.mgmt.deferred.toList.map fun tag => commitReply tag s.conditions.generation fromEpoch } } := by
  unfold releaseDeferred
  split
  · next empty =>
    simp only [empty, Option.toList_none, List.map_nil, List.append_nil]
    rw [← empty]
  · next tag held =>
    rw [held]
    rfl

theorem swapPending_none (fromEpoch : Epoch) (quiet : s.conditions.commit = .none) : swapPending fromEpoch s = s := by
  rw [swapPending, quiet]

theorem swapPending_pending (fromEpoch : Epoch) (pending : s.conditions.commit = .pending) :
    swapPending fromEpoch s = releaseDeferred fromEpoch (s.setConditions (swapBanks s.conditions)) := by
  rw [swapPending, pending]

/-! ### Lane symbols (R11 to R17, R31) -/

variable {l : Fin 4} {tag : BitVec 4} {k : Fin 8} {raw : BitVec 16}

/-- R15: a word is late unless its tag is that of the open epoch. -/
theorem wordLate_iff (tag : BitVec 4) (s : State) :
    wordLate tag s = true ↔ ∀ n, s.timer.openEpoch = some n → tag ≠ n.setWidth 4 := by
  unfold wordLate
  split
  · next closed => simp [closed]
  · next n opened => simp [opened]

theorem judgeWord_late (late : wordLate tag s = true) :
    judgeWord l tag k raw s = raise .sampleLate (putLane l { s.lanes[l] with
      lateWords := satAdd Config.count16Max s.lanes[l].lateWords 1 } s) := if_pos late

theorem judgeWord_unexpected (inTime : wordLate tag s = false) (unexpected : has (expectedSet s.channels.table l) k = false) :
    judgeWord l tag k raw s = s := by
  simp [judgeWord, inTime, unexpected]

theorem judgeWord_duplicate (inTime : wordLate tag s = false) (expected : has (expectedSet s.channels.table l) k = true)
    (again : has s.lanes[l].received k = true) : judgeWord l tag k raw s = raise .laneFault s := by
  have again' : has s.lanes[l.val].received k = true := again
  simp [judgeWord, inTime, expected, again']

theorem judgeWord_accepted (inTime : wordLate tag s = false) (expected : has (expectedSet s.channels.table l) k = true)
    (first : has s.lanes[l].received k = false) : judgeWord l tag k raw s = acceptWord l k raw s := by
  have first' : has s.lanes[l.val].received k = false := first
  simp [judgeWord, inTime, expected, first']

theorem laneWord_unlocked (unlocked : s.lanes[l].state ≠ .locked) : laneWord l tag k raw s = s := by
  unfold laneWord
  cases state : s.lanes[l].state with
  | off | seeking => rfl
  | locked => exact absurd state unlocked

/-- R12: a word on a LOCKED lane ends its run of bad symbols, and is judged. -/
theorem laneWord_locked (locked : s.lanes[l].state = .locked) :
    laneWord l tag k raw s = judgeWord l tag k raw (putLane l { s.lanes[l] with badRun := 0 } s) := by
  unfold laneWord
  rw [locked]

/-- R17, R23: an accepted word in the open values of its channels. -/
theorem deliver_eq (l : Fin 4) (k : Fin 8) (raw : BitVec 16) (p : ChannelProcessor) : deliver l k raw p = { p with
    openValues := Vector.ofFn fun c =>
      if p.table[c].enabled = true ∧ p.table[c].lane = l ∧ p.table[c].slot = k then some raw else p.openValues[c] } := by
  simp only [deliver, Table.mapAll, Bool.and_eq_true, beq_iff_eq, and_assoc]

theorem lane_putLane (l : Fin 4) (r : Lane) (s : State) : (putLane l r s).lanes[l] = r := Table.put_get_self ..

theorem putLane_putLane (l : Fin 4) (a b : Lane) (s : State) : putLane l b (putLane l a s) = putLane l b s := by
  simp only [putLane, State.setLanes_lanes, Table.put_put, State.setLanes_setLanes]

/-- R17: a word accepted on a lane just written. -/
theorem acceptWord_putLane (l : Fin 4) (k : Fin 8) (raw : BitVec 16) (r : Lane) (s : State) :
    acceptWord l k raw (putLane l r s) = completenessTest { s with
      channels := deliver l k raw s.channels
      lanes := Table.put s.lanes l { r with
        received := r.received ||| single 8 k
        wordsTaken := min 65535 (r.wordsTaken + 1) } } := by
  have read : (putLane l r s).lanes[l] = r := lane_putLane l r s
  unfold acceptWord
  dsimp only
  rw [show ((putLane l r s).setChannels (deliver l k raw (putLane l r s).channels)).lanes[l] = r from read]
  refine congrArg completenessTest (State.eq_of_blocks rfl ?_ rfl rfl rfl rfl rfl rfl rfl rfl rfl)
  exact Table.put_put ..

/-- R31: the crossing reset of the channels of one lane. -/
theorem resetCrossings_single (l : Fin 4) (p : ChannelProcessor) : resetCrossings (single 4 l) p = { p with
    runtime := Vector.ofFn fun c => if p.table[c].lane = l then p.runtime[c].crossingReset else p.runtime[c] } := by
  simp only [resetCrossings, Table.mapAll, has_single, decide_eq_true_eq]

theorem loseLane_eq (l : Fin 4) (s : State) : loseLane l s = completenessTest { s with
    alerts := { s.alerts with raises := s.alerts.raises ++ [.laneFault] }
    lanes := Table.put s.lanes l { s.lanes[l] with state := .seeking, goodRun := 0, badRun := 0 }
    channels := resetCrossings (single 4 l) s.channels
    timer := { s.timer with participating := s.timer.participating &&& ~~~ single 4 l } } := rfl

end Sys2Proof.Machine

namespace Sys2Proof.Proofs.Lanes
open Sys2Proof.Machine

/-- Settles O8: the order in which `judgeWord` judges a word on a LOCKED lane. -/
theorem laneWordJudged : Obligations.LaneWordJudged := by
  refine ⟨fun s l tag k raw => ?_, fun s l tag k raw n locked opened tagged takes fresh => ?_⟩
  · intro late expected
    have expected_iff : has (expectedSet s.channels.table l) k = true ↔ expected := has_expectedSet_iff ..
    have late_iff : wordLate tag s = true ↔ late := wordLate_iff ..
    have inTime (notLate : ¬late) : wordLate tag s = false :=
      Bool.eq_false_iff.mpr (mt late_iff.mp notLate)
    refine ⟨fun unlocked => ?_, fun locked isLate => ?_, fun locked notLate unexpected => ?_,
      fun locked notLate isExpected again => ?_⟩
    · rw [exec_laneWord, laneWord_unlocked unlocked]
    · rw [exec_laneWord, laneWord_locked locked, judgeWord_late (s := putLane _ _ s) (late_iff.mpr isLate), lane_putLane,
        putLane_putLane]
      rfl
    · have notTaken : has (expectedSet s.channels.table l) k = false :=
        Bool.eq_false_iff.mpr (mt expected_iff.mp unexpected)
      rw [exec_laneWord, laneWord_locked locked, judgeWord_unexpected (s := putLane _ _ s) (inTime notLate) notTaken]
      rfl
    · rw [exec_laneWord, laneWord_locked locked, judgeWord_duplicate (s := putLane _ _ s) (inTime notLate)
        (expected_iff.mpr isExpected) (by rw [lane_putLane]; exact again)]
      rfl
  · have inTime : wordLate tag s = false := by
      rw [← Bool.not_eq_true, wordLate_iff]
      exact fun late => late n opened tagged
    rw [exec_laneWord, laneWord_locked locked, judgeWord_accepted (s := putLane _ _ s) inTime
      ((has_expectedSet_iff ..).mpr takes) (by rw [lane_putLane]; exact fresh), acceptWord_putLane,
      deliver_eq]

/-- Settles O9: each symbol, by the state of the lane. -/
theorem laneLockGainedAndLost : Obligations.LaneLockGainedAndLost := by
  intro s l lane put lost
  have lost_eq : loseLane l s = lost := by
    rw [loseLane_eq, resetCrossings_single]
    rfl
  rw [exec_alignmentMark, exec_badSymbol, exec_laneLossOfSignal, alignmentMark, badSymbol, laneLossOfSignal, lost_eq]
  cases state : lane.state with
  | off =>
    exact ⟨rfl, rfl, rfl⟩
  | seeking =>
    exact ⟨rfl, rfl, rfl⟩
  | locked =>
    exact ⟨rfl, rfl, rfl⟩

end Sys2Proof.Proofs.Lanes

namespace Sys2Proof.Proofs.Epochs
open Sys2Proof.Machine

/-- Settles O5: the close as an equation, the opening by its definition. -/
theorem openingAndCloseOfAnEpoch : Obligations.OpeningAndCloseOfAnEpoch := by
  refine ⟨missingWord_iff, fun s => ⟨completenessTest_eq s, lockedLanes s.lanes, fun l => ?_, rfl⟩, fun s cause =>
    ⟨fun closed => closeEpoch_none closed cause, fun n opened => closeEpoch_eq opened cause⟩⟩
  simp [lockedLanes]

/-- Settles O6: one equation for each state of the timer. -/
theorem startStopAndStrobe : Obligations.StartStopAndStrobe := by
  refine ⟨?_, ?_, fun s p runs => congrArg _ (periodExpiry_running runs)⟩
  · rintro s q rest ⟨idle, queued, row⟩
    rw [exec_epochStart, execHead_run idle queued row]
    refine ⟨fun running => ?_, fun stopped => ?_⟩
    · rw [epochStart_running running, refuse_eq_replied queued]
    · rw [epochStart_stopped stopped, finishHead_eq_replied (by simpa using queued), startTimer_eq]
      rfl
  · rintro s q rest ⟨idle, queued, row⟩
    rw [exec_epochStop, execHead_run idle queued row]
    refine ⟨fun stopped => ?_, fun running => ?_⟩
    · rw [epochStop_stopped stopped, refuse_eq_replied queued]
    · rw [epochStop_running running, finishHead_eq_replied (by simpa using queued)]
      rfl

/-- Settles O7: the swap of the banks, then the deferred reply to the reply queue. -/
theorem swapOfAPendingCommit : Obligations.SwapOfAPendingCommit := by
  refine fun s fromEpoch => ⟨swapPending_none fromEpoch, fun pending => ?_⟩
  rw [swapPending_pending fromEpoch pending, releaseDeferred_eq]
  rfl

end Sys2Proof.Proofs.Epochs
end

section
/-! The channels (chapter 2): the corrected value, and a channel settled in a record. -/

namespace Sys2Proof.Machine

/-- R25: saturation to 16 bits, as the comparisons the manual writes. -/
theorem clamp16_eq (x : Int) : clamp16 x = if 32767 < x then 32767 else if x < -32768 then -32768 else x := by
  simp only [clamp16]
  split <;> [skip; split] <;> omega

theorem clamp16_bounds (x : Int) : -32768 ≤ clamp16 x ∧ clamp16 x ≤ 32767 := by
  simp only [clamp16]
  omega

theorem toInt_ofInt_of_bounds {x : Int} (low : -32768 ≤ x) (high : x ≤ 32767) : (BitVec.ofInt 16 x).toInt = x :=
  BitVec.toInt_ofInt_eq_self (by decide) low (by omega)

/-- R25: the corrected value as an exact integer. -/
theorem toInt_correctedValue (e : ChannelEntry) (raw : BitVec 16) : (correctedValue e raw).toInt =
    if e.invert then clamp16 (-clamp16 (codedValue e.coding raw + e.offset.toInt))
    else clamp16 (codedValue e.coding raw + e.offset.toInt) := by
  simp only [correctedValue]
  split
  · exact toInt_ofInt_of_bounds (clamp16_bounds _).1 (clamp16_bounds _).2
  · exact toInt_ofInt_of_bounds (clamp16_bounds _).1 (clamp16_bounds _).2

/-- R25: the inversion of a saturated value, which saturates -32768 alone. -/
theorem clamp16_neg {x : Int} (low : -32768 ≤ x) (high : x ≤ 32767) :
    clamp16 (-x) = if x = -32768 then 32767 else -x := by
  simp only [clamp16]
  split <;> omega

/-! ### The crossing detector (R28, R29, Table 2-4) -/

variable (e : ChannelEntry) (v : Value) (st : CrossingState)

/-- A rising transition is made. -/
def risesAt : Bool := st = .below ∧ e.level.toInt + e.hysteresis ≤ v.toInt

/-- A falling transition is made. -/
def fallsAt : Bool := st = .above ∧ v.toInt ≤ e.level.toInt - e.hysteresis

/-- The detector is ABOVE afterwards. -/
def aboveAfter : Bool :=
  (st = .unknown ∧ e.level.toInt ≤ v.toInt) ∨ (st = .above ∧ fallsAt e v st = false) ∨ risesAt e v st = true

theorem crossingStep_eq : crossingStep e v st =
    (if aboveAfter e v st then .above else .below,
      if risesAt e v st then some .rising else if fallsAt e v st then some .falling else none) := by
  cases st with
  | unknown => by_cases up : e.level.toInt ≤ v.toInt <;> simp [crossingStep, aboveAfter, risesAt, fallsAt, up]
  | below => by_cases up : e.level.toInt + e.hysteresis ≤ v.toInt <;> simp [crossingStep, aboveAfter, risesAt, fallsAt, up]
  | above => by_cases down : v.toInt ≤ e.level.toInt - e.hysteresis <;> simp [crossingStep, aboveAfter, risesAt, fallsAt, down]

/-- No value makes both transitions. -/
theorem risesAt_or_fallsAt : risesAt e v st = false ∨ fallsAt e v st = false := by
  cases st <;> simp [risesAt, fallsAt]

/-- R29: the transitions counted. -/
theorem counted_eq {rising falling : Bool} (apart : rising = false ∨ falling = false) :
    counted e (if rising then some .rising else if falling then some .falling else none) =
      decide ((rising = true ∧ e.direction ≠ .falling) ∨ (falling = true ∧ e.direction ≠ .rising)) := by
  cases rising <;> cases falling <;> cases direction : e.direction <;> simp [counted, direction] at apart ⊢

/-- R26: a channel not enabled, or with no open value. -/
theorem settleChannel_absent {n : Epoch} {e : ChannelEntry} {raw : Option (BitVec 16)} {r : ChannelRuntime}
    (absent : e.enabled = false ∨ raw = none) :
    settleChannel n e raw r = ({ value := none, crossed := false, delta := none }, { r with previous := none }) := by
  obtain disabled | rfl := absent
  · simp [settleChannel, disabled]
  · simp [settleChannel]

/-- R29: a counted crossing, or none. -/
theorem countCrossing_eq (n : Epoch) (r : ChannelRuntime) (crossed : Bool) :
    (if crossed then r.countCrossing n else r) = { r with
      cycleCount := if crossed then r.cycleCount + 1 else r.cycleCount
      lastCrossing := if crossed then some n else r.lastCrossing
      lastPeriod := if crossed ∧ r.lastCrossing ≠ none then r.lastCrossing.map fun c => n - c else r.lastPeriod } := by
  cases crossed with
  | false => rfl
  | true => cases last : r.lastCrossing <;> simp [ChannelRuntime.countCrossing, last]

/-- R32: a peak replaced by a better value. -/
theorem peakOf_eq (better : Int → Int → Prop) [DecidableRel better] (v : Value) (p : Option Value) :
    peakOf (fun a b => decide (better a b)) v p = match p with
      | none => some v
      | some p => if better v.toInt p.toInt then some v else some p := by
  cases p <;> simp [peakOf]

end Sys2Proof.Machine

namespace Sys2Proof.Proofs.Channels
open Sys2Proof.Machine

/-- Settles O11: saturation as comparisons, before and after the inversion. -/
theorem correctedValue : Obligations.CorrectedValue := by
  intro e raw sum saturated
  have saturated_eq : clamp16 sum = saturated := clamp16_eq sum
  obtain ⟨low, high⟩ := clamp16_bounds sum
  rw [toInt_correctedValue, clamp16_neg low high, saturated_eq]

/-- Settles O12: the crossing detector, the counted crossing and the peaks, each by its equation. -/
theorem channelSettled : Obligations.ChannelSettled := by
  refine fun n e raw r => ⟨settleChannel_absent, fun x enabled given => ?_⟩
  intro v rising falling above counted
  have isCounted : Machine.counted e (crossingStep e v r.crossing).2 = counted := by
    rw [crossingStep_eq]
    exact counted_eq e (risesAt_or_fallsAt e v r.crossing)
  have crossing : (crossingStep e v r.crossing).1 = if above then .above else .below := by
    rw [crossingStep_eq]
    rfl
  simp only [settleChannel, enabled, given, if_true]
  rw [isCounted, crossing, countCrossing_eq]
  rewrite [peakOf_eq (fun a b => b < a), peakOf_eq (fun a b => a < b)]
  rfl

end Sys2Proof.Proofs.Channels
end

section
/-! READ and WRITE of the tables (R164, R165 and the rules of Table 11-3): each request's outcomes as equations. -/

namespace Sys2Proof.Machine

variable {s : State} {q : Request} {rest : List Request}

theorem finOf_of_le {n k : Nat} (large : n ≤ k) : finOf n k = none := dif_neg (Nat.not_lt.mpr large)

theorem finOf_of_eq {n k : Nat} {i : Fin n} (is : k = i) : finOf n k = some i := by
  subst is
  exact dif_pos i.isLt

/-- R164, R172: ten codes name a table. -/
theorem tableOf_of_le {code : Byte} (large : 10 ≤ code.toNat) : tableOf code = none := by
  unfold tableOf
  split
  case h_11 => rfl
  all_goals next is => omega

theorem bank_of_zero (zero : (q.options.extractLsb' 0 2).toNat = 0) : q.bank = some .edit := by
  rw [Request.bank, zero]
  rfl

theorem bank_of_one (one : (q.options.extractLsb' 0 2).toNat = 1) : q.bank = some .live := by
  rw [Request.bank, one]
  rfl

theorem bank_of_le (large : 2 ≤ (q.options.extractLsb' 0 2).toNat) : q.bank = none := by
  unfold Request.bank
  split
  case h_3 => rfl
  all_goals next is => omega

/-! ### READ -/

theorem read_none (unnamed : q.table = none) : read q s = refuse .badTable s := by
  rw [read, unnamed]

theorem read_some {table : TableName} (named : q.table = some table) : read q s = answerRead q table s := by
  rw [read, named]

theorem answerRead_error {table : TableName} {status : Status} (refused : readEntry s q table = .error status) :
    answerRead q table s = refuse status s := by
  rw [answerRead, refused]

theorem answerRead_ok {table : TableName} {bank : BankName} {entry : TableEntry}
    (found : readEntry s q table = .ok (bank, entry)) :
    answerRead q table s = finishHead .ok (.read table q.index bank entry) s := by
  rw [answerRead, found]

theorem readPlain_of_le {n : Nat} (entry : Fin n → TableEntry) (large : n ≤ q.index.toNat) :
    readPlain n q entry = .error .badIndex := by
  rw [readPlain, finOf_of_le large]

theorem readPlain_of_eq {n : Nat} (entry : Fin n → TableEntry) {i : Fin n} (is : q.index.toNat = i) :
    readPlain n q entry = .ok (.edit, entry i) := by
  rw [readPlain, finOf_of_eq is]

theorem readBanked_of_le {n : Nat} (entry : BankName → Fin n → TableEntry) (large : n ≤ q.index.toNat) :
    readBanked n q entry = .error .badIndex := by
  rw [readBanked, finOf_of_le large]

theorem readBanked_of_bank {n : Nat} (entry : BankName → Fin n → TableEntry) {i : Fin n} {b : BankName}
    (is : q.index.toNat = i) (bank : q.bank = some b) : readBanked n q entry = .ok (b, entry b i) := by
  rw [readBanked, finOf_of_eq is, bank]

theorem readBanked_of_no_bank {n : Nat} (entry : BankName → Fin n → TableEntry) {i : Fin n}
    (is : q.index.toNat = i) (bank : q.bank = none) : readBanked n q entry = .error .badValue := by
  rw [readBanked, finOf_of_eq is, bank]

/-- A refused request in the words of the statements. -/
theorem next_of_refuse (queued : s.mgmt.requests = q :: rest) {t : State} {st : Status} (refused : t = refuse st s) :
    (Host.Outcome.next (arbitrate t) : Host.Outcome State Fault Refusal) =
      .next (arbitrate (replied q rest st .nothing s)) := by
  rw [refused, refuse_eq_replied queued]

theorem finishHead_setChannels (st : Status) (r : ReplyContent) (x : ChannelProcessor) (s : State) :
    finishHead st r (s.setChannels x) = (finishHead st r s).setChannels x := by
  cases queued : s.mgmt.requests with
  | nil => rw [finishHead_nil queued, finishHead_nil (s := s.setChannels x) queued]
  | cons q rest =>
    rw [finishHead_cons queued, finishHead_cons (s := s.setChannels x) queued]
    rfl

/-- R33: a READ of CHANNEL-RUNTIME of no channel. -/
theorem readChannelRuntime_of_le (large : 16 ≤ q.index.toNat) : readChannelRuntime q s = refuse .badIndex s := by
  have refused : answerRead q .channelRuntime s = refuse .badIndex s := answerRead_error (readPlain_of_le _ large)
  rw [readChannelRuntime, finOf_of_le large, refused]

/-- R33: the record is answered, and with the clear option both peaks become absent. -/
theorem readChannelRuntime_of_eq {c : Fin 16} (is : q.index.toNat = c) : readChannelRuntime q s =
    finishHead .ok (.read .channelRuntime q.index .edit (.channelRuntime s.channels.runtime[c]))
      (if q.clear then clearPeaks c s else s) := by
  have answered : answerRead q .channelRuntime s =
      finishHead .ok (.read .channelRuntime q.index .edit (.channelRuntime s.channels.runtime[c])) s :=
    answerRead_ok (readPlain_of_eq _ is)
  rw [readChannelRuntime, finOf_of_eq is, answered]
  dsimp only
  split
  · simp only [clearPeaks, finishHead_frame, finishHead_setChannels]
  · rfl

/-! ### WRITE of no table or of a read-only one -/

theorem write_none (unnamed : q.table = none) : write q s = refuse .badTable s := by
  rw [write, unnamed]

theorem write_some {table : TableName} (named : q.table = some table) : write q s = refuse .readOnly s := by
  rw [write, named]

/-! ### WRITE of CONTROL (R10, R14, R166) -/

theorem controlOf_of_length {p : List Byte} (length : p.length ≠ 6) : controlOf p = none := by
  unfold controlOf
  split
  · exact absurd rfl length
  · rfl

theorem controlOf_eq (p1 p0 lanes alerts options reserved : Byte) :
    controlOf [p1, p0, lanes, alerts, options, reserved] =
      if (p1 ++ p0 : BitVec 16).toNat < 10 then none
      else some { period := p1 ++ p0, lanes := lanes.setWidth 4, alerts := alerts.setWidth 7,
                  streamEnable := options.getLsbD 0 } := rfl

theorem writeControl_index (other : q.index ≠ 0) : writeControl q s = refuse .badIndex s := if_pos other

theorem writeControl_illegal (first : q.index = 0) (illegal : controlOf q.payload = none) :
    writeControl q s = refuse .badValue s := by
  rw [writeControl, if_neg (not_not.mpr first), illegal]

theorem writeControl_busy {r : ControlRecord} (first : q.index = 0) (legal : controlOf q.payload = some r)
    (busy : s.timer.state = .running ∧ r.period ≠ s.mgmt.control.period) : writeControl q s = refuse .busy s := by
  rw [writeControl, if_neg (not_not.mpr first), legal]
  exact if_pos busy

theorem writeControl_ok {r : ControlRecord} (first : q.index = 0) (legal : controlOf q.payload = some r)
    (free : s.timer.state = .running → r.period = s.mgmt.control.period) :
    writeControl q s = finishHead .ok (.wrote .control q.index) (applyControl r s) := by
  rw [writeControl, if_neg (not_not.mpr first), legal]
  exact if_neg fun ⟨running, other⟩ => other (free running)

theorem disabledLocked_iff (s : State) (now : LaneSet) (l : Fin 4) : has (disabledLocked s now) l = true ↔
    s.lanes[l].state = .locked ∧ has s.mgmt.control.lanes l = true ∧ has now l = false := by
  simp only [disabledLocked, has_ofFnLE, Bool.and_eq_true, beq_iff_eq, Bool.not_eq_true', and_assoc]

theorem enabledLane_eq (was now : Bool) (x : Lane) : enabledLane was now x =
    if was = now then x else { x with state := if now then .seeking else .off, goodRun := 0, badRun := 0 } := by
  cases was <;> cases now <;> rfl

/-- R10, R14: the enable set replaced, the disabled LOCKED lanes out of the epoch in one event, the alert rule last. -/
theorem applyControl_eq (r : ControlRecord) (s : State) :
    let leaving := disabledLocked s r.lanes
    let u : State := { s with
      mgmt := { s.mgmt with control := r }
      lanes := Vector.ofFn fun l =>
        if has s.mgmt.control.lanes l = has r.lanes l then s.lanes[l]
        else { s.lanes[l] with state := if has r.lanes l then .seeking else .off, goodRun := 0, badRun := 0 } }
    applyControl r s = settleAlerts (if leaving = 0 then u else lanesLeave leaving u) := by
  intro leaving u
  have lanes : Table.mapAll (fun l x => enabledLane (has s.mgmt.control.lanes l) (has r.lanes l) x) s.lanes = u.lanes := by
    simp only [Table.mapAll, enabledLane_eq, u]
  unfold applyControl
  dsimp only
  rw [lanes]
  rfl

/-- The head request answered with nothing in execution. -/
theorem finishHead_idle (queued : s.mgmt.requests = q :: rest) (idle : s.mgmt.exec = .idle) (st : Status)
    (c : ReplyContent) : finishHead st c s = { s with mgmt := { s.mgmt with
      requests := rest
      replies := s.mgmt.replies ++ [{ tag := q.tag, kind := q.kind, status := st, content := c }] } } := by
  rw [finishHead_cons queued, ← idle]
  rfl

/-! ### WRITE of CHANNEL (R20, R21, R22, R79, R116) -/

/-- R79: the channels in use by a unit outside IDLE. -/
theorem has_protectedSet_iff (s : State) (c : Fin 16) : has (protectedSet s) c = true ↔
    ∃ u : Fin 4, s.capture.units[u].state ≠ .idle ∧ (has s.capture.configs[u].mask c = true ∨
      (s.capture.configs[u].postMode = .cycles ∧ s.capture.configs[u].reference = c)) := by
  simp only [protectedSet, has_ofFnLE, List.any_eq_true, List.mem_finRange, true_and, UnitConfig.uses, Bool.and_eq_true,
    bne_iff_ne, Bool.or_eq_true, beq_iff_eq]

theorem expectedChanged_iff (participating : LaneSet) (a b : Table ChannelEntry 16) :
    expectedChanged participating a b = true ↔
      ∃ l : Fin 4, has participating l = true ∧ expectedSet a l ≠ expectedSet b l := by
  simp only [expectedChanged, List.any_eq_true, List.mem_finRange, true_and, Bool.and_eq_true, bne_iff_ne]

theorem writeChannel_index (large : 16 ≤ q.index.toNat) : writeChannel q s = refuse .badIndex s := by
  rw [writeChannel, finOf_of_le large]

theorem writeChannel_illegal {c : Fin 16} (is : q.index.toNat = c) (illegal : channelOf q.payload = none) :
    writeChannel q s = refuse .badValue s := by
  rw [writeChannel, finOf_of_eq is, illegal]

theorem writeChannel_busy {c : Fin 16} {e : ChannelEntry} (is : q.index.toNat = c) (legal : channelOf q.payload = some e)
    (busy : has (protectedSet s) c = true) : writeChannel q s = refuse .busy s := by
  rw [writeChannel, finOf_of_eq is, legal]
  exact if_pos busy

theorem writeChannel_ok {c : Fin 16} {e : ChannelEntry} (is : q.index.toNat = c) (legal : channelOf q.payload = some e)
    (free : has (protectedSet s) c = false) :
    writeChannel q s = finishHead .ok (.wrote .channel q.index) (applyChannel c e s) := by
  rw [writeChannel, finOf_of_eq is, legal]
  exact if_neg (by simp [free])

theorem applyChannel_eq (c : Fin 16) (e : ChannelEntry) (s : State) :
    let u : State := { s with
      channels := replaceChannel c e s.channels
      stream := { s.stream with reloads := s.stream.reloads ++ [reloadOf c e s] } }
    applyChannel c e s =
      if expectedChanged s.timer.participating s.channels.table u.channels.table then completenessTest u else u := rfl

/-! ### WRITE of LEVEL, CONDITION, TRIGGER and UNIT (R40, R41, R60, R74, R125) -/

section
variable {α : Type} {n : Nat} {table : TableName} {decode : List Byte → Option α} {put : Fin n → α → Bank → Bank}

theorem writeBanked_index (large : n ≤ q.index.toNat) :
    writeBanked n table decode put q s = refuse .badIndex s := by
  rw [writeBanked, finOf_of_le large]

theorem writeBanked_illegal {i : Fin n} (is : q.index.toNat = i) (illegal : decode q.payload = none) :
    writeBanked n table decode put q s = refuse .badValue s := by
  rw [writeBanked, finOf_of_eq is, illegal]

theorem writeBanked_busy {i : Fin n} {a : α} (is : q.index.toNat = i) (legal : decode q.payload = some a)
    (pending : s.conditions.commit = .pending) : writeBanked n table decode put q s = refuse .busy s := by
  rw [writeBanked, finOf_of_eq is, legal, pending]

theorem writeBanked_ok {i : Fin n} {a : α} (is : q.index.toNat = i) (legal : decode q.payload = some a)
    (quiet : s.conditions.commit = .none) : writeBanked n table decode put q s =
      finishHead .ok (.wrote table q.index) (setEdit (put i a s.conditions.edit) s) := by
  rw [writeBanked, finOf_of_eq is, legal, quiet]

/-- Every outcome of the WRITE of a banked table. -/
theorem writeBanked_outcomes (queued : s.mgmt.requests = q :: rest) :
    let run : Host.Outcome State Fault Refusal := .next (arbitrate (writeBanked n table decode put q s))
    let no (status : Status) := run = .next (arbitrate (replied q rest status .nothing s))
    (n ≤ q.index.toNat → no .badIndex) ∧
    ∀ i : Fin n, q.index.toNat = i →
      (decode q.payload = none → no .badValue) ∧
      ∀ v, decode q.payload = some v → (s.conditions.commit = .pending → no .busy) ∧
        (s.conditions.commit = .none → run = .next (arbitrate (replied q rest .ok (.wrote table q.index)
          { s with conditions := { s.conditions with edit := put i v s.conditions.edit } }))) := by
  intro run no
  refine ⟨fun large => next_of_refuse queued (writeBanked_index large), fun i is =>
    ⟨fun illegal => next_of_refuse queued (writeBanked_illegal is illegal), fun v legal =>
      ⟨fun pending => next_of_refuse queued (writeBanked_busy is legal pending), fun quiet => ?_⟩⟩⟩
  simp only [run]
  rw [writeBanked_ok is legal quiet, setEdit, finishHead_setConditions queued]

end

theorem writeUnit_index (large : 4 ≤ q.index.toNat) : writeUnit q s = refuse .badIndex s := by
  rw [writeUnit, finOf_of_le large]

theorem writeUnit_illegal {u : Fin 4} (is : q.index.toNat = u) (illegal : unitOf q.payload = none) :
    writeUnit q s = refuse .badValue s := by
  rw [writeUnit, finOf_of_eq is, illegal]

theorem writeUnit_busy {u : Fin 4} {c : UnitConfig} (is : q.index.toNat = u) (legal : unitOf q.payload = some c)
    (busy : s.capture.units[u].state ≠ .idle) : writeUnit q s = refuse .wrongState s := by
  rw [writeUnit, finOf_of_eq is, legal]
  exact if_neg busy

theorem writeUnit_ok {u : Fin 4} {c : UnitConfig} (is : q.index.toNat = u) (legal : unitOf q.payload = some c)
    (idle : s.capture.units[u].state = .idle) : writeUnit q s = finishHead .ok (.wrote .unit q.index)
      (s.setCapture { s.capture with configs := Table.put s.capture.configs u c }) := by
  rw [writeUnit, finOf_of_eq is, legal]
  exact if_pos idle

end Sys2Proof.Machine

namespace Sys2Proof.Proofs.Tables
open Sys2Proof.Machine

/-- The answers of a READ of an unbanked table. -/
theorem read_plain {s : State} {q : Request} {rest : List Request} (reads : Executes .read q rest s) {n : Nat}
    {table : TableName} {entry : Fin n → TableEntry} (named : q.table = some table)
    (plain : readEntry s q table = readPlain n q entry) :
    (n ≤ q.index.toNat → exec .read s = .next (arbitrate (replied q rest .badIndex .nothing s))) ∧
    ∀ i : Fin n, q.index.toNat = i →
      exec .read s = .next (arbitrate (replied q rest .ok (.read table q.index .edit (entry i)) s)) := by
  obtain ⟨idle, queued, row⟩ := reads
  rw [exec_read, execHead_run idle queued row, read_some named]
  refine ⟨fun large => ?_, fun i is => ?_⟩
  · rw [answerRead_error (plain.trans (readPlain_of_le _ large)), refuse_eq_replied queued]
  · rw [answerRead_ok (plain.trans (readPlain_of_eq _ is)), finishHead_eq_replied queued]

/-- The answers of a READ of a banked table. -/
theorem read_banked {s : State} {q : Request} {rest : List Request} (reads : Executes .read q rest s) {n : Nat}
    {table : TableName} {entry : Bank → Fin n → TableEntry} (named : q.table = some table)
    (banked : readEntry s q table = readBanked n q fun b i => entry (s.conditions.bank b) i) :
    let bank := (q.options.extractLsb' 0 2).toNat
    let ok (b : BankName) (e : TableEntry) :=
      exec .read s = .next (arbitrate (replied q rest .ok (.read table q.index b e) s))
    let no (status : Status) := exec .read s = .next (arbitrate (replied q rest status .nothing s))
    (n ≤ q.index.toNat → no .badIndex) ∧
    ∀ i : Fin n, q.index.toNat = i → (bank = 0 → ok .edit (entry s.conditions.edit i)) ∧
      (bank = 1 → ok .live (entry s.conditions.live i)) ∧ (2 ≤ bank → no .badValue) := by
  obtain ⟨idle, queued, row⟩ := reads
  intro bank ok no
  simp only [ok, no]
  rw [exec_read, execHead_run idle queued row, read_some named]
  refine ⟨fun large => ?_, fun i is => ⟨fun zero => ?_, fun one => ?_, fun two => ?_⟩⟩
  · rw [answerRead_error (banked.trans (readBanked_of_le _ large)), refuse_eq_replied queued]
  · rw [answerRead_ok (banked.trans (readBanked_of_bank _ is (bank_of_zero zero))), finishHead_eq_replied queued]
    rfl
  · rw [answerRead_ok (banked.trans (readBanked_of_bank _ is (bank_of_one one))), finishHead_eq_replied queued]
    rfl
  · rw [answerRead_error (banked.trans (readBanked_of_no_bank _ is (bank_of_le two))), refuse_eq_replied queued]

/-- Settles O13: one equation for each table and each outcome. -/
theorem readsAndRefusedWrites : Obligations.ReadsAndRefusedWrites := by
  refine ⟨fun s q rest reads => ?_, ?_, ?_⟩
  · have named {code : Byte} {table : TableName} (is : q.operand = code) (names : tableOf code = some table) :
        q.table = some table := by rw [Request.table, is, names]
    refine ⟨fun large => ?_, fun is => read_plain reads (named is rfl) rfl, fun is => read_plain reads (named is rfl) rfl,
      fun is => read_banked reads (entry := fun b i => .level b.levels[i]) (named is rfl) rfl,
      fun is => read_banked reads (entry := fun b i => .condition b.list[i]) (named is rfl) rfl,
      fun is => read_banked reads (entry := fun b i => .trigger b.triggers[i]) (named is rfl) rfl, fun is => read_plain reads (named is rfl) rfl,
      fun is => read_plain reads (named is rfl) rfl, fun is => read_plain reads (named is rfl) rfl,
      fun is => read_plain reads (named is rfl) rfl⟩
    obtain ⟨idle, queued, row⟩ := reads
    rw [exec_read, execHead_run idle queued row, read_none (tableOf_of_le large), refuse_eq_replied queued]
  · rintro s q rest ⟨idle, queued, row⟩
    rw [exec_readChannelRuntime, execHead_run idle queued row]
    refine ⟨fun large => ?_, fun c is => ?_⟩
    · rw [readChannelRuntime_of_le large, refuse_eq_replied queued]
    · rw [readChannelRuntime_of_eq is]
      have clear : q.options.getLsbD 2 = q.clear := rfl
      rw [clear]
      cases q.clear with
      | false => exact congrArg _ (congrArg arbitrate (finishHead_eq_replied queued ..))
      | true => exact congrArg _ (congrArg arbitrate (finishHead_eq_replied (s := clearPeaks c s) queued ..))
  · rintro s q rest ⟨idle, queued, row⟩
    rw [exec_write, execHead_run idle queued row]
    refine ⟨fun large => ?_, fun listed => ?_⟩
    · rw [write_none (tableOf_of_le large), refuse_eq_replied queued]
    · have named : ∃ table, q.table = some table := by
        simp only [List.mem_cons, List.not_mem_nil, or_false] at listed
        obtain is | is | is | is := listed <;> exact ⟨_, by rw [Request.table, is]; rfl⟩
      obtain ⟨table, isTable⟩ := named
      rw [write_some isTable, refuse_eq_replied queued]

/-- Settles O14: the checks in their order, then the effects of the write. -/
theorem writeControl : Obligations.WriteControl := by
  rintro s q rest ⟨idle, queued, row⟩
  rw [exec_writeControl, execHead_run idle queued row]
  intro no
  refine ⟨fun other => next_of_refuse queued (writeControl_index other),
    fun first length => next_of_refuse queued (writeControl_illegal first (controlOf_of_length length)), ?_⟩
  intro p1 p0 lanes alerts options reserved first payload period now
  have decoded := controlOf_eq p1 p0 lanes alerts options reserved
  rw [← payload] at decoded
  refine ⟨fun short => ?_, fun long running other => ?_, fun long free => ?_⟩
  · exact next_of_refuse queued (writeControl_illegal first (decoded.trans (if_pos short)))
  · exact next_of_refuse queued (writeControl_busy first (decoded.trans (if_neg (Nat.not_lt.mpr long))) ⟨running, other⟩)
  · refine ⟨disabledLocked s now, disabledLocked_iff s now, ?_⟩
    rw [writeControl_ok first (decoded.trans (if_neg (Nat.not_lt.mpr long))) free,
      finishHead_idle (by simpa using queued) (by simpa using idle), applyControl_eq]
    rfl

/-- Settles O15: the checks in their order, then the entry replaced and its reload handed over. -/
theorem writeChannel : Obligations.WriteChannel := by
  rintro s q rest ⟨idle, queued, row⟩
  rw [exec_writeChannel, execHead_run idle queued row]
  refine ⟨fun large => next_of_refuse queued (writeChannel_index large), fun c is => ?_⟩
  intro isProtected
  have protected_iff : has (protectedSet s) c = true ↔ isProtected := has_protectedSet_iff s c
  refine ⟨fun illegal => next_of_refuse queued (writeChannel_illegal is illegal), fun e legal =>
    ⟨fun busy => next_of_refuse queued (writeChannel_busy is legal (protected_iff.mpr busy)), fun free => ?_⟩⟩
  intro u changed
  have changed_iff : expectedChanged s.timer.participating s.channels.table u.channels.table = true ↔ changed :=
    expectedChanged_iff ..
  have written : applyChannel c e s =
      if expectedChanged s.timer.participating s.channels.table u.channels.table then completenessTest u else u :=
    applyChannel_eq c e s
  refine ⟨applyChannel c e s, ⟨fun yes => written.trans (if_pos (changed_iff.mpr yes)),
    fun no => written.trans (if_neg (mt changed_iff.mp no))⟩, ?_⟩
  rw [writeChannel_ok is legal (Bool.eq_false_iff.mpr (mt protected_iff.mp free)),
    finishHead_eq_replied (by simpa using queued)]

/-- Settles O16: three tables by the one write of a banked table, and the unit's own. -/
theorem writeOfBankedTablesAndUnit : Obligations.WriteOfBankedTablesAndUnit := by
  refine ⟨fun s q rest => ⟨?_, ?_, ?_⟩, ?_⟩
  · rintro ⟨idle, queued, row⟩
    rw [exec_writeLevel, execHead_run idle queued row]
    exact writeBanked_outcomes queued
  · rintro ⟨idle, queued, row⟩
    rw [exec_writeCondition, execHead_run idle queued row]
    exact writeBanked_outcomes queued
  · rintro ⟨idle, queued, row⟩
    rw [exec_writeTrigger, execHead_run idle queued row]
    exact writeBanked_outcomes queued
  · rintro s q rest ⟨idle, queued, row⟩
    rw [exec_writeUnit, execHead_run idle queued row]
    refine ⟨fun large => next_of_refuse queued (writeUnit_index large), fun u is =>
      ⟨fun illegal => next_of_refuse queued (writeUnit_illegal is illegal), fun c legal =>
        ⟨fun busy => next_of_refuse queued (writeUnit_busy is legal busy), fun free => ?_⟩⟩⟩
    rw [writeUnit_ok is legal free, finishHead_eq_replied (by simpa using queued)]
    rfl

end Sys2Proof.Proofs.Tables
end

section
/-! The payloads a WRITE refuses (R20, R40, R41, R60, R74, R75, R166): when each decoder of Table 12-8 answers none. -/

namespace Sys2Proof.Machine

/-! ### Decoders put together from decoders of fields -/

/-- A field read before the rest: the whole is refused when the field is, or when the rest is whatever the field's
value. -/
theorem bind_eq_none_iff_or {α β : Type} {o : Option α} {f : α → Option β} {P : Prop}
    (rest : ∀ a, o = some a → (f a = none ↔ P)) : (o >>= f) = none ↔ o = none ∨ (o ≠ none ∧ P) := by
  cases o with
  | none => exact ⟨fun _ => .inl rfl, fun _ => rfl⟩
  | some a => exact (rest a rfl).trans (by simp)

/-- The same where the two refusals are alternatives. -/
theorem bind_eq_none_iff {α β : Type} {o : Option α} {f : α → Option β} {Q P : Prop} (field : o = none ↔ Q)
    (rest : ∀ a, o = some a → (f a = none ↔ P)) : (o >>= f) = none ↔ Q ∨ P := by
  rw [bind_eq_none_iff_or rest, field]
  tauto

theorem ensure_bind_eq_none_iff {β : Type} {c : Bool} {b : β} : (ensure c >>= fun _ => some b) = none ↔ c = false := by
  cases c with
  | false => exact ⟨fun _ => rfl, fun _ => rfl⟩
  | true => exact ⟨nofun, nofun⟩

theorem toNat_lowNibble (b : Byte) : (b.extractLsb' 0 4).toNat = b.toNat % 16 := by
  rw [BitVec.extractLsb'_toNat, Nat.shiftRight_zero]

theorem toNat_highNibble (b : Byte) : (b.extractLsb' 4 4).toNat = b.toNat / 16 := by
  rw [BitVec.extractLsb'_toNat, Nat.shiftRight_eq_div_pow]
  omega

theorem finOf_eq_none_iff {n k : Nat} : finOf n k = none ↔ n ≤ k := by
  simp [finOf]

theorem codingOf_eq_none_iff {b : Byte} : codingOf b = none ↔ 2 ≤ b.toNat := by
  unfold codingOf
  generalize b.toNat = code
  match code with
  | 0 | 1 => simp
  | code + 2 => simp

theorem directionOf_eq_none_iff {b : Byte} : directionOf b = none ↔ 3 ≤ b.toNat := by
  unfold directionOf
  generalize b.toNat = code
  match code with
  | 0 | 1 | 2 => simp
  | code + 3 => simp

theorem testOf_eq_none_iff {b : Byte} : testOf b = none ↔ 8 ≤ b.toNat := by
  unfold testOf
  generalize b.toNat = code
  match code with
  | 0 | 1 | 2 | 3 | 4 | 5 | 6 | 7 => simp
  | code + 8 => simp

theorem postModeOf_eq_none_iff {b : Byte} : postModeOf b = none ↔ 2 ≤ b.toNat := by
  unfold postModeOf
  generalize b.toNat = code
  match code with
  | 0 | 1 => simp
  | code + 2 => simp

theorem retriggerOf_eq_none_iff {b : Byte} : retriggerOf b = none ↔ 2 ≤ b.toNat := by
  unfold retriggerOf
  generalize b.toNat = code
  match code with
  | 0 | 1 => simp
  | code + 2 => simp

theorem handOffOf_eq_none_iff {b : Byte} : handOffOf b = none ↔ 2 ≤ b.toNat := by
  unfold handOffOf
  generalize b.toNat = code
  match code with
  | 0 | 1 => simp
  | code + 2 => simp

theorem afterReleaseOf_eq_none_iff {b : Byte} : afterReleaseOf b = none ↔ 2 ≤ b.toNat := by
  unfold afterReleaseOf
  generalize b.toNat = code
  match code with
  | 0 | 1 => simp
  | code + 2 => simp

/-- R41: a SKIP of distance 0 and a trigger above 7 are not legal. -/
theorem actionOf_eq_none_iff {kind operand : Byte} : actionOf kind operand = none ↔
    5 ≤ kind.toNat ∨ (kind = 1 ∧ operand.toNat % 16 = 0) ∨ (kind.toNat ∈ [2, 3] ∧ 8 ≤ operand.toNat) := by
  have skips : operand.extractLsb' 0 4 = 0 ↔ operand.toNat % 16 = 0 := by
    rw [← BitVec.toNat_inj, BitVec.extractLsb'_toNat, Nat.shiftRight_zero]
    rfl
  have isOne : kind = 1 ↔ kind.toNat = 1 := by rw [← BitVec.toNat_inj]; rfl
  unfold actionOf
  rw [isOne]
  generalize kind.toNat = code
  match code with
  | 0 | 4 => simp
  | 1 => simpa using skips
  | 2 | 3 => simp [finOf_eq_none_iff]
  | code + 5 => simp

/-! ### The payloads (Table 12-8) -/

theorem controlOf_eq_none_iff (p : List Byte) : controlOf p = none ↔
    p.length ≠ 6 ∨ ∃ p1 p0 lanes alerts options reserved,
      p = [p1, p0, lanes, alerts, options, reserved] ∧ 256 * p1.toNat + p0.toNat < 10 := by
  have legal (p1 p0 lanes alerts options reserved : Byte) :
      controlOf [p1, p0, lanes, alerts, options, reserved] = none ↔ 256 * p1.toNat + p0.toNat < 10 := by
    rw [← toNat_word16, controlOf_eq]
    exact ite_eq_left_iff.trans (by simp [word16])
  constructor
  · intro refused
    by_cases length : p.length = 6
    · match p, length with
      | [p1, p0, lanes, alerts, options, reserved], _ =>
        exact .inr ⟨_, _, _, _, _, _, rfl, (legal ..).mp refused⟩
    · exact .inl length
  · rintro (length | ⟨p1, p0, lanes, alerts, options, reserved, rfl, short⟩)
    · exact controlOf_of_length length
    · exact (legal ..).mpr short

theorem levelOf_eq_none_iff (p : List Byte) : levelOf p = none ↔ p.length ≠ 2 := by
  unfold levelOf
  split
  · simp
  · next other =>
    refine iff_of_true rfl fun length => ?_
    match p, length with
    | [v1, v0], _ => exact other v1 v0 rfl

theorem triggerOf_eq_none_iff (p : List Byte) : triggerOf p = none ↔
    p.length ≠ 4 ∨ ∃ target r h1 h0, p = [target, r, h1, h0] ∧ 4 ≤ target.toNat ∧ target.toNat ≠ 255 := by
  have legal (target r h1 h0 : Byte) :
      triggerOf [target, r, h1, h0] = none ↔ 4 ≤ target.toNat ∧ target.toNat ≠ 255 := by
    have isLast : target = 0xFF#8 ↔ target.toNat = 255 := by rw [← BitVec.toNat_inj]; rfl
    by_cases last : target.toNat = 255
    · simp [triggerOf, isLast.mpr last]
    · have notLast : target ≠ 0xFF#8 := mt isLast.mp last
      rw [← finOf_eq_none_iff (n := 4), and_iff_left last, triggerOf, if_neg notLast]
      cases finOf 4 target.toNat <;> simp
  constructor
  · intro refused
    by_cases length : p.length = 4
    · match p, length with
      | [target, r, h1, h0], _ => exact .inr ⟨_, _, _, _, rfl, (legal ..).mp refused⟩
    · exact .inl length
  · rintro (length | ⟨target, r, h1, h0, rfl, bad⟩)
    · unfold triggerOf
      split
      · exact absurd rfl length
      · rfl
    · exact (legal ..).mpr bad

theorem channelOf_eq_none_iff (p : List Byte) : channelOf p = none ↔ p.length ≠ 12 ∨
    ∃ f src coding dir o1 o0 l1 l0 h1 h0 d1 d0, p = [f, src, coding, dir, o1, o0, l1, l0, h1, h0, d1, d0] ∧
      (4 ≤ src.toNat / 16 ∨ 8 ≤ src.toNat % 16 ∨ 2 ≤ coding.toNat ∨ 3 ≤ dir.toNat ∨
        4095 < 256 * h1.toNat + h0.toNat ∨ 256 * d1.toNat + d0.toNat = 0 ∨ 256 < 256 * d1.toNat + d0.toNat) := by
  have legal (f src coding dir o1 o0 l1 l0 h1 h0 d1 d0 : Byte) :
      channelOf [f, src, coding, dir, o1, o0, l1, l0, h1, h0, d1, d0] = none ↔
        (4 ≤ src.toNat / 16 ∨ 8 ≤ src.toNat % 16 ∨ 2 ≤ coding.toNat ∨ 3 ≤ dir.toNat ∨
          4095 < 256 * h1.toNat + h0.toNat ∨ 256 * d1.toNat + d0.toNat = 0 ∨ 256 < 256 * d1.toNat + d0.toNat) := by
    have lane : finOf 4 (src.extractLsb' 4 4).toNat = none ↔ 4 ≤ src.toNat / 16 := by
      rw [finOf_eq_none_iff, toNat_highNibble]
    have slot : finOf 8 (src.extractLsb' 0 4).toNat = none ↔ 8 ≤ src.toNat % 16 := by
      rw [finOf_eq_none_iff, toNat_lowNibble]
    refine bind_eq_none_iff lane fun _ _ => bind_eq_none_iff slot fun _ _ =>
      bind_eq_none_iff codingOf_eq_none_iff fun _ _ => bind_eq_none_iff directionOf_eq_none_iff fun _ _ => ?_
    refine ensure_bind_eq_none_iff.trans ?_
    rw [toNat_word16, toNat_word16, Bool.eq_false_iff]
    simp only [ne_eq, Bool.and_eq_true, decide_eq_true_eq]
    omega
  constructor
  · intro refused
    by_cases length : p.length = 12
    · match p, length with
      | [f, src, coding, dir, o1, o0, l1, l0, h1, h0, d1, d0], _ =>
        exact .inr ⟨_, _, _, _, _, _, _, _, _, _, _, _, rfl, (legal ..).mp refused⟩
    · exact .inl length
  · rintro (length | ⟨f, src, coding, dir, o1, o0, l1, l0, h1, h0, d1, d0, rfl, bad⟩)
    · unfold channelOf
      split
      · exact absurd rfl length
      · rfl
    · exact (legal ..).mpr bad

theorem conditionOf_eq_none_iff (p : List Byte) : conditionOf p = none ↔ p.length ≠ 10 ∨
    ∃ f test ch a b k1 v1 k2 v2 r, p = [f, test, ch, a, b, k1, v1, k2, v2, r] ∧
      (8 ≤ test.toNat ∨ 16 ≤ ch.toNat ∨ 32 ≤ a.toNat ∨ 32 ≤ b.toNat ∨ 5 ≤ k1.toNat ∨ 5 ≤ k2.toNat ∨
        (k1 = 1 ∧ v1.toNat % 16 = 0) ∨ (k2 = 1 ∧ v2.toNat % 16 = 0) ∨
        (k1.toNat ∈ [2, 3] ∧ 8 ≤ v1.toNat) ∨ (k2.toNat ∈ [2, 3] ∧ 8 ≤ v2.toNat)) := by
  have legal (f test ch a b k1 v1 k2 v2 r : Byte) : conditionOf [f, test, ch, a, b, k1, v1, k2, v2, r] = none ↔
      (8 ≤ test.toNat ∨ 16 ≤ ch.toNat ∨ 32 ≤ a.toNat ∨ 32 ≤ b.toNat ∨ 5 ≤ k1.toNat ∨ 5 ≤ k2.toNat ∨
        (k1 = 1 ∧ v1.toNat % 16 = 0) ∨ (k2 = 1 ∧ v2.toNat % 16 = 0) ∨
        (k1.toNat ∈ [2, 3] ∧ 8 ≤ v1.toNat) ∨ (k2.toNat ∈ [2, 3] ∧ 8 ≤ v2.toNat)) := by
    refine (bind_eq_none_iff testOf_eq_none_iff fun _ _ => bind_eq_none_iff finOf_eq_none_iff fun _ _ =>
      bind_eq_none_iff finOf_eq_none_iff fun _ _ => bind_eq_none_iff finOf_eq_none_iff fun _ _ =>
      bind_eq_none_iff actionOf_eq_none_iff fun _ _ => bind_eq_none_iff actionOf_eq_none_iff fun _ _ =>
      iff_of_false (Option.some_ne_none _) id).trans ?_
    tauto
  constructor
  · intro refused
    by_cases length : p.length = 10
    · match p, length with
      | [f, test, ch, a, b, k1, v1, k2, v2, r], _ =>
        exact .inr ⟨_, _, _, _, _, _, _, _, _, _, rfl, (legal ..).mp refused⟩
    · exact .inl length
  · rintro (length | ⟨f, test, ch, a, b, k1, v1, k2, v2, r, rfl, bad⟩)
    · unfold conditionOf
      split
      · exact absurd rfl length
      · rfl
    · exact (legal ..).mpr bad

/-! ### UNIT (R72, R74, R75) -/

theorem usable_iff (c : UnitConfig) : c.usable = true ↔
    c.firstBlock + c.blockCount ≤ 64 ∧ 1 ≤ c.blockCount ∧ c.mask ≠ 0 ∧
    let depth := 256 * c.blockCount / ((List.finRange 16).filter fun ch : Fin 16 => c.mask.getLsbD ch.val).length
    match c.postMode with
    | .epochs => c.pre + 1 + c.postLength ≤ depth
    | .cycles => 1 ≤ c.postLength ∧ c.postLength ≤ 255 ∧ 1 ≤ c.guard ∧ c.pre + 1 + c.guard ≤ depth := by
  have depth : c.depth =
      256 * c.blockCount / ((List.finRange 16).filter fun ch : Fin 16 => c.mask.getLsbD ch.val).length := rfl
  unfold UnitConfig.usable
  rw [depth]
  cases c.postMode <;> simp only [Bool.and_eq_true, decide_eq_true_eq, bne_iff_ne, and_assoc]

/-- R75: what the requirements of an entry in use are about. -/
theorem usable_congr {a b : UnitConfig} (firstBlock : a.firstBlock = b.firstBlock) (blockCount : a.blockCount = b.blockCount)
    (mask : a.mask = b.mask) (pre : a.pre = b.pre) (postMode : a.postMode = b.postMode)
    (postLength : a.postLength = b.postLength) (guard : a.guard = b.guard) : a.usable = b.usable := by
  rw [Bool.eq_iff_iff, usable_iff, usable_iff, firstBlock, blockCount, mask, pre, postMode, postLength, guard]

theorem postModeOf_eq_some {b : Byte} {m : PostMode} (read : postModeOf b = some m) :
    m = if b = 0 then .epochs else .cycles := by
  have isZero : b = 0 ↔ b.toNat = 0 := by rw [← BitVec.toNat_inj]; rfl
  rw [if_congr isZero rfl rfl]
  unfold postModeOf at read
  generalize b.toNat = code at read ⊢
  match code with
  | 0 | 1 => simpa [eq_comm] using read
  | code + 2 => simp at read

/-- Whatever its other fields, no entry of these bytes meets the requirements of R75. -/
def UnusableBytes (first count mode m1 m0 p1 p0 l1 l0 g1 g0 : Byte) : Prop :=
  ∀ c : UnitConfig, c.firstBlock = first.toNat → c.blockCount = count.toNat →
    c.mask = m1 ++ m0 → c.pre = 256 * p1.toNat + p0.toNat → c.postMode = (if mode = 0 then .epochs else .cycles) →
    c.postLength = 256 * l1.toNat + l0.toNat → c.guard = 256 * g1.toNat + g0.toNat → c.usable = false

/-- One entry of the bytes tells for all. -/
theorem unusableBytes_iff {first count mode m1 m0 p1 p0 l1 l0 g1 g0 : Byte} {c : UnitConfig}
    (firstBlock : c.firstBlock = first.toNat) (blockCount : c.blockCount = count.toNat) (mask : c.mask = m1 ++ m0)
    (pre : c.pre = 256 * p1.toNat + p0.toNat) (postMode : c.postMode = if mode = 0 then .epochs else .cycles)
    (postLength : c.postLength = 256 * l1.toNat + l0.toNat) (guard : c.guard = 256 * g1.toNat + g0.toNat) :
    UnusableBytes first count mode m1 m0 p1 p0 l1 l0 g1 g0 ↔ c.usable = false := by
  refine ⟨fun all => all c firstBlock blockCount mask pre postMode postLength guard, fun unusable d f b m p k l g => ?_⟩
  rw [← unusable]
  exact usable_congr (f.trans firstBlock.symm) (b.trans blockCount.symm) (m.trans mask.symm) (p.trans pre.symm)
    (k.trans postMode.symm) (l.trans postLength.symm) (g.trans guard.symm)

/-- R74: the stored values that two bytes or one can exceed. -/
theorem stored_eq_false_iff (c : UnitConfig) : c.stored = false ↔
    64 ≤ c.firstBlock ∨ 64 < c.blockCount ∨ 4095 < c.pre ∨ 4095 < c.postLength ∨ 4095 < c.guard := by
  simp only [UnitConfig.stored, Bool.and_eq_false_iff, decide_eq_false_iff_not]
  omega

theorem unitOf_bytes_eq_none_iff (f first count mode m1 m0 p1 p0 l1 l0 g1 g0 ref re ho ar : Byte) :
    unitOf [f, first, count, mode, m1, m0, p1, p0, l1, l0, g1, g0, ref, re, ho, ar] = none ↔
      (64 ≤ first.toNat ∨ 64 < count.toNat ∨ 2 ≤ mode.toNat ∨ 4095 < 256 * p1.toNat + p0.toNat ∨
        4095 < 256 * l1.toNat + l0.toNat ∨ 4095 < 256 * g1.toNat + g0.toNat ∨ 16 ≤ ref.toNat ∨ 2 ≤ re.toNat ∨
        2 ≤ ho.toNat ∨ 2 ≤ ar.toNat ∨
        (f.getLsbD 0 = true ∧ UnusableBytes first count mode m1 m0 p1 p0 l1 l0 g1 g0)) := by
  refine (bind_eq_none_iff postModeOf_eq_none_iff fun m isMode => bind_eq_none_iff finOf_eq_none_iff fun _ _ =>
    bind_eq_none_iff retriggerOf_eq_none_iff fun _ _ => bind_eq_none_iff handOffOf_eq_none_iff fun _ _ =>
    bind_eq_none_iff (P := 64 ≤ first.toNat ∨ 64 < count.toNat ∨ 4095 < 256 * p1.toNat + p0.toNat ∨
      4095 < 256 * l1.toNat + l0.toNat ∨ 4095 < 256 * g1.toNat + g0.toNat ∨
      (f.getLsbD 0 = true ∧ UnusableBytes first count mode m1 m0 p1 p0 l1 l0 g1 g0))
      afterReleaseOf_eq_none_iff fun _ _ => ensure_bind_eq_none_iff.trans ?_).trans ?_
  · rw [Bool.and_eq_false_iff, stored_eq_false_iff, Bool.or_eq_false_iff, Bool.not_eq_false',
      ← unusableBytes_iff (first := first) (count := count) (mode := mode) (m1 := m1) (m0 := m0) (p1 := p1) (p0 := p0)
        (l1 := l1) (l0 := l0) (g1 := g1) (g0 := g0) rfl rfl rfl (toNat_word16 ..) (postModeOf_eq_some isMode)
        (toNat_word16 ..) (toNat_word16 ..)]
    simp only [toNat_word16, or_assoc]
  · tauto

theorem unitOf_eq_none_iff (p : List Byte) : unitOf p = none ↔ p.length ≠ 16 ∨
    ∃ f first count mode m1 m0 p1 p0 l1 l0 g1 g0 ref re ho ar,
      p = [f, first, count, mode, m1, m0, p1, p0, l1, l0, g1, g0, ref, re, ho, ar] ∧
      (64 ≤ first.toNat ∨ 64 < count.toNat ∨ 2 ≤ mode.toNat ∨ 4095 < 256 * p1.toNat + p0.toNat ∨
        4095 < 256 * l1.toNat + l0.toNat ∨ 4095 < 256 * g1.toNat + g0.toNat ∨ 16 ≤ ref.toNat ∨ 2 ≤ re.toNat ∨
        2 ≤ ho.toNat ∨ 2 ≤ ar.toNat ∨
        (f.getLsbD 0 = true ∧ UnusableBytes first count mode m1 m0 p1 p0 l1 l0 g1 g0)) := by
  constructor
  · intro refused
    by_cases length : p.length = 16
    · match p, length with
      | [f, first, count, mode, m1, m0, p1, p0, l1, l0, g1, g0, ref, re, ho, ar], _ =>
        exact .inr ⟨_, _, _, _, _, _, _, _, _, _, _, _, _, _, _, _, rfl, (unitOf_bytes_eq_none_iff ..).mp refused⟩
    · exact .inl length
  · rintro (length | ⟨f, first, count, mode, m1, m0, p1, p0, l1, l0, g1, g0, ref, re, ho, ar, rfl, bad⟩)
    · unfold unitOf
      split
      · exact absurd rfl length
      · rfl
    · exact (unitOf_bytes_eq_none_iff ..).mpr bad

end Sys2Proof.Machine

namespace Sys2Proof.Proofs.Payloads
open Sys2Proof.Machine

/-- Settles O17: each decoder by the fields that refuse. -/
theorem refusedPayloads : Obligations.RefusedPayloads :=
  ⟨controlOf_eq_none_iff, levelOf_eq_none_iff, triggerOf_eq_none_iff, channelOf_eq_none_iff, conditionOf_eq_none_iff,
    usable_iff, unitOf_eq_none_iff⟩

end Sys2Proof.Proofs.Payloads
end

section
/-! The Condition Engine: the tests of a record, the walk and the fires it hands on, answers, and the FIRE request
(chapters 3 and 4). -/

namespace Sys2Proof.Machine

/-! ### The tests of a record (R42, R45, R46) -/

section
variable {levels : Table Value 32} {rec : EpochRecord} {e : ConditionEntry}

theorem evalTest_crossed_iff : evalTest levels rec { e with test := .crossed } = true ↔
    rec.fields[e.channel].value ≠ none ∧ rec.fields[e.channel].crossed = true := by
  cases value : rec.fields[e.channel].value with
  | none => simp [evalTest_of_not_present (e := { e with test := .crossed }) value]
  | some v => simp [evalTest, show rec.fields[e.channel.val].value = some v from value]

theorem evalTest_rise_iff : evalTest levels rec { e with test := .rise } = true ↔
    rec.fields[e.channel].value ≠ none ∧ ∃ d, rec.fields[e.channel].delta = some d ∧ levels[e.levelA].toInt < d := by
  cases value : rec.fields[e.channel].value with
  | none => simp [evalTest_of_not_present (e := { e with test := .rise }) value]
  | some v => simp [evalTest, show rec.fields[e.channel.val].value = some v from value, Option.any_eq_true]

theorem evalTest_fall_iff : evalTest levels rec { e with test := .fall } = true ↔
    rec.fields[e.channel].value ≠ none ∧ ∃ d, rec.fields[e.channel].delta = some d ∧ levels[e.levelA].toInt < -d := by
  cases value : rec.fields[e.channel].value with
  | none => simp [evalTest_of_not_present (e := { e with test := .fall }) value]
  | some v => simp [evalTest, show rec.fields[e.channel.val].value = some v from value, Option.any_eq_true]

theorem evalTest_absent_iff : evalTest levels rec { e with test := .absent } = true ↔
    rec.fields[e.channel].value = none := by
  cases value : rec.fields[e.channel].value with
  | none => simp [evalTest_of_not_present (e := { e with test := .absent }) value]
  | some v => simp [evalTest, show rec.fields[e.channel.val].value = some v from value]

end

/-! ### The walk (R47 to R51, R54) -/

section
variable (levels : Table Value 32) (rec : EpochRecord)

/-- R49: a SKIP passes over as many entries as its distance. -/
theorem walkEntries_skip (es : List ConditionEntry) (k : Nat) (fired : List (Fin 8)) :
    walkEntries levels rec es k fired = walkEntries levels rec (es.drop k) 0 fired := by
  induction es generalizing k with
  | nil => rw [List.drop_nil, walkEntries, walkEntries]
  | cons e rest ih =>
    cases k with
    | zero => rw [List.drop_zero]
    | succ k => rw [walkEntries, List.drop_succ_cons, ih]

theorem walkEntries_not_inUse {e : ConditionEntry} (rest : List ConditionEntry) (fired : List (Fin 8))
    (unused : e.inUse = false) : walkEntries levels rec (e :: rest) 0 fired = fired := by
  simp [walkEntries, unused]

theorem walkEntries_inUse {e : ConditionEntry} (rest : List ConditionEntry) (fired : List (Fin 8))
    (used : e.inUse = true) : walkEntries levels rec (e :: rest) 0 fired =
      match chosenAction levels rec e with
      | .next => walkEntries levels rec rest 0 fired
      | .skip k => walkEntries levels rec (rest.drop k) 0 fired
      | .fire t => walkEntries levels rec rest 0 (addFired fired t)
      | .fireEnd t => addFired fired t
      | .endWalk => fired := by
  rw [walkEntries, used]
  cases chosenAction levels rec e with
  | skip k => exact walkEntries_skip ..
  | next | fire t | fireEnd t | endWalk => rfl

theorem addFired_nodup {fired : List (Fin 8)} (t : Fin 8) (nodup : fired.Nodup) : (addFired fired t).Nodup := by
  unfold addFired
  split
  · exact nodup
  · next fresh =>
    refine List.nodup_append.mpr ⟨nodup, List.nodup_singleton t, fun x mem y isT => ?_⟩
    rw [List.mem_singleton.mp isT]
    exact fun this => fresh (this ▸ mem)

theorem mem_addFired {fired : List (Fin 8)} {t u : Fin 8} (mem : u ∈ addFired fired t) : u ∈ fired ∨ u = t := by
  unfold addFired at mem
  split at mem
  · exact .inl mem
  · simpa using mem

/-- An entry in use names the trigger in the action it takes. -/
def Names (t : Fin 8) (e : ConditionEntry) : Prop :=
  e.inUse = true ∧ (chosenAction levels rec e = .fire t ∨ chosenAction levels rec e = .fireEnd t)

/-- R50, R51: from any entry on, a walk adds each trigger once, and only those that entries in use name. -/
theorem walkEntries_fires (es : List ConditionEntry) {k : Nat} {fired : List (Fin 8)} (nodup : fired.Nodup) :
    (walkEntries levels rec es k fired).Nodup ∧
    ∀ t ∈ walkEntries levels rec es k fired, t ∈ fired ∨ ∃ e ∈ es, Names levels rec t e := by
  induction es generalizing k fired with
  | nil => exact ⟨by simpa [walkEntries] using nodup, fun t mem => .inl (by simpa [walkEntries] using mem)⟩
  | cons e rest ih =>
    have later {k : Nat} {f : List (Fin 8)} (fNodup : f.Nodup)
        (new : ∀ t ∈ f, t ∈ fired ∨ Names levels rec t e) :
        (walkEntries levels rec rest k f).Nodup ∧
        ∀ t ∈ walkEntries levels rec rest k f, t ∈ fired ∨ ∃ x ∈ e :: rest, Names levels rec t x := by
      obtain ⟨kept, from_⟩ := ih (k := k) fNodup
      refine ⟨kept, fun t mem => ?_⟩
      obtain before | ⟨x, inRest, names⟩ := from_ t mem
      · exact (new t before).imp_right fun names => ⟨e, List.mem_cons_self, names⟩
      · exact .inr ⟨x, List.mem_cons_of_mem e inRest, names⟩
    have adds {t : Fin 8} (names : Names levels rec t e) (u : Fin 8) (mem : u ∈ addFired fired t) :
        u ∈ fired ∨ Names levels rec u e := (mem_addFired mem).imp_right fun (this : u = t) => this ▸ names
    cases k with
    | succ k => exact later nodup fun t mem => .inl mem
    | zero =>
      rw [walkEntries]
      split
      · exact ⟨nodup, fun t mem => .inl mem⟩
      · next used =>
        have inUse : e.inUse = true := by simpa using used
        split
        · exact later nodup fun t mem => .inl mem
        · exact later nodup fun t mem => .inl mem
        · next t action => exact later (addFired_nodup t nodup) (adds ⟨inUse, .inl action⟩)
        · next t action =>
          refine ⟨addFired_nodup t nodup, fun u mem => ?_⟩
          exact (adds ⟨inUse, .inr action⟩ u mem).imp_right fun names => ⟨e, List.mem_cons_self, names⟩
        · exact ⟨nodup, fun t mem => .inl mem⟩

end

/-! ### Fires (R62 to R65, R71) -/

section
variable {s : State} {q : Request} {rest : List Request}

theorem sendFire_setConditions (f : FireRequest) (c : ConditionEngine) (same : c.resetsTaken = s.conditions.resetsTaken) :
    sendFire f (s.setConditions c) = { s with
      conditions := c
      capture := { s.capture with fires := s.capture.fires ++
        if s.capture.resetsTaken ≤ s.conditions.resetsTaken then [f] else [] } } := by
  rw [sendFire_eq, State.setConditions_conditions, same]
  rfl

theorem handleFire_suppressed {n : Epoch} {t : Fin 8} (held : s.conditions.triggers[t].remaining ≠ 0) :
    handleFire n s t = putTrigger t { s.conditions.triggers[t] with
      suppressed := satAdd Config.count16Max s.conditions.triggers[t].suppressed 1 } s :=
  if_pos (Nat.pos_of_ne_zero held)

/-- R64: an accepted walk fire. -/
theorem handleFire_accepted {n : Epoch} {t : Fin 8} (free : s.conditions.triggers[t].remaining = 0) :
    handleFire n s t =
      let accepted := putTrigger t { s.conditions.triggers[t].countFire n with
        remaining := s.conditions.live.triggers[t].holdOff } s
      match s.conditions.live.triggers[t].target with
      | none => accepted
      | some u => sendFire { unit := u, trigger := t, epoch := n, generation := s.conditions.generation,
                             forced := false, waiter := none } accepted :=
  if_neg (Nat.not_lt.mpr (Nat.le_of_eq free))

/-! ### Answers (R66, R69) -/

theorem countAnswer_eq (a : FireAnswer) (s : State) : countAnswer a s = { s with
    conditions := { s.conditions with
      triggers := if a.answer = .missed then
          Table.put s.conditions.triggers a.trigger { s.conditions.triggers[a.trigger] with
            missed := min 65535 (s.conditions.triggers[a.trigger].missed + 1) }
        else s.conditions.triggers }
    alerts := { s.alerts with
      raises := s.alerts.raises ++ if a.answer = .missed then [.triggerMissed] else [] } } := by
  unfold countAnswer
  cases a.answer with
  | missed => rfl
  | started | truncated | retriggered =>
    simp only [reduceCtorEq, if_false, List.append_nil]

theorem completeFire_other {a : FireAnswer}
    (other : ∀ w t e, s.mgmt.exec = .awaitAnswer w t e → a.waiter ≠ some w) : completeFire a s = s := by
  unfold completeFire
  split
  · next w t e awaits => exact if_neg (other w t e awaits)
  · rfl
  · rfl

theorem completeFire_awaited {a : FireAnswer} {w : Nat} {t : Fin 8} {e : Epoch} (awaits : s.mgmt.exec = .awaitAnswer w t e)
    (waiter : a.waiter = some w) : completeFire a s = finishHead .ok (.fire t (some a.answer) e) s := by
  rw [completeFire, awaits]
  exact if_pos waiter

theorem fireAnswer_cons {a : FireAnswer} {later : List FireAnswer} (waiting : s.conditions.answers = a :: later) :
    fireAnswer s = arbitrate (completeFire a (countAnswer a (s.setConditions { s.conditions with answers := later }))) := by
  rw [fireAnswer, waiting]

/-! ### The FIRE request (R67, R68, R69) -/

/-- R68, R69: a forced fire sent after the Condition Engine has counted it. -/
theorem forceFire_setConditions (t : Fin 8) (u : Fin 4) (l : Epoch) (s : State) {c : ConditionEngine}
    (same : c.resetsTaken = s.conditions.resetsTaken) : forceFire t u l (s.setConditions c) = { s with
      conditions := c
      capture := { s.capture with fires := s.capture.fires ++
        if s.capture.resetsTaken ≤ s.conditions.resetsTaken then
          [{ unit := u, trigger := t, epoch := l, generation := c.generation, forced := true,
             waiter := some s.mgmt.nextWaiter }]
        else [] }
      mgmt := { s.mgmt with
        exec := .awaitAnswer s.mgmt.nextWaiter t l
        nextWaiter := s.mgmt.nextWaiter + 1 } } := by
  unfold forceFire
  dsimp only
  rw [sendFire_setConditions _ c same]
  rfl

theorem fire_index (large : 8 ≤ q.operand.toNat) : fire q s = refuse .badIndex s := by
  rw [fire, finOf_of_le large]

theorem fire_unclosed {t : Fin 8} (is : q.operand.toNat = t) (none : s.timer.lastClosed = none) :
    fire q s = refuse .wrongState s := by
  rw [fire, finOf_of_eq is, none]

theorem fire_closed {t : Fin 8} {l : Epoch} (is : q.operand.toNat = t) (closed : s.timer.lastClosed = some l) :
    fire q s =
      let counted := putTrigger t (s.conditions.triggers[t].countFire l) s
      match s.conditions.live.triggers[t].target with
      | none => finishHead .ok (.fire t none l) counted
      | some u => forceFire t u l counted := by
  rw [fire, finOf_of_eq is, closed]
  rfl

theorem walk_cons {o : Offered} {later : List Offered} (waiting : s.conditions.records = o :: later)
    (run : o.run = s.conditions.resetsTaken) :
    walk s = arbitrate (walkRecord o.record (s.setConditions { s.conditions with records := later })) := by
  rw [walk, waiting]
  exact if_pos run

end

end Sys2Proof.Machine

namespace Sys2Proof.Proofs.Conditions
open Sys2Proof.Machine

/-- Settles O19: each test by its comparison. -/
theorem recordTests : Obligations.RecordTests := fun _ _ _ =>
  ⟨evalTest_crossed_iff, evalTest_rise_iff, evalTest_fall_iff, evalTest_absent_iff⟩

/-- Settles O20: the walk by the action of the entry it stands at. -/
theorem walkByActions : Obligations.WalkByActions := by
  refine ⟨fun _ _ => rfl, fun levels rec e rest fired => ⟨rfl, walkEntries_not_inUse levels rec rest fired,
    walkEntries_inUse levels rec rest fired⟩⟩

/-- Settles O21: the walk of the whole list, from no trigger fired. -/
theorem walkFiresEachTriggerOnce : Obligations.WalkFiresEachTriggerOnce := by
  intro b rec
  obtain ⟨nodup, named⟩ := walkEntries_fires b.levels rec b.list.toList (k := 0) List.nodup_nil
  refine ⟨nodup, fun t mem => ?_⟩
  obtain none | ⟨e, listed, names⟩ := named t mem
  · exact absurd none List.not_mem_nil
  · obtain ⟨i, small, rfl⟩ := Vector.mem_iff_getElem.mp (Vector.mem_toList_iff.mp listed)
    exact ⟨⟨i, small⟩, names⟩

/-- Settles O22: suppressed while the hold-off remains, accepted otherwise. -/
theorem walkFireHandled : Obligations.WalkFireHandled := by
  intro s n t r entry put accepted
  refine ⟨fun held => handleFire_suppressed held, fun free untargeted => ?_, fun u free target => ?_⟩
  · rw [handleFire_accepted free, show s.conditions.live.triggers[t].target = none from untargeted]
    rfl
  · rw [handleFire_accepted free, show s.conditions.live.triggers[t].target = some u from target]
    exact sendFire_setConditions _ _ rfl

/-- Settles O23: the commit check, the countdown, then the fires in order. -/
theorem walkOfARecord : Obligations.WalkOfARecord := by
  intro s o rest waiting run p c
  rw [exec_walk, walk_cons waiting run]
  rfl

/-- Settles O24: the answer counted, and the request that awaits it answered. -/
theorem answerTaken : Obligations.AnswerTaken := by
  intro s a rest waiting r u
  have counted : countAnswer a (s.setConditions { s.conditions with answers := rest }) = u := countAnswer_eq ..
  rw [exec_fireAnswer, fireAnswer_cons waiting, counted]
  refine ⟨fun other => ?_, fun w t e q requests awaits waiter queued => ?_⟩
  · rw [completeFire_other (s := u) other]
  · rw [completeFire_awaited (s := u) awaits waiter, finishHead_eq_replied (s := u) queued]

/-- Settles O25: the checks, then the fire with a target or without one. -/
theorem fireOnRequest : Obligations.FireOnRequest := by
  rintro s q rest ⟨idle, queued, row⟩
  rw [exec_fire, execHead_run idle queued row]
  refine ⟨fun large => next_of_refuse queued (fire_index large), fun t is =>
    ⟨fun none => next_of_refuse queued (fire_unclosed is none), fun l closed => ?_⟩⟩
  intro r counted
  rw [fire_closed is closed]
  refine ⟨fun untargeted => ?_, fun u target => ?_⟩
  · rw [untargeted]
    exact congrArg _ (congrArg arbitrate (finishHead_setConditions queued ..))
  · rw [target]
    refine congrArg _ (congrArg arbitrate ?_)
    exact forceFire_setConditions t u l s rfl

end Sys2Proof.Proofs.Conditions
end

section
/-! Capture units (chapter 5): the unit requests, and what a unit does with a record and with a fire, as equations. -/

namespace Sys2Proof.Machine

variable {s : State} {q : Request} {rest : List Request}

/-! ### ARM (R72, R80) -/

/-- R72: two regions overlap when some block is in both. -/
theorem overlaps_iff (a b : UnitConfig) : a.overlaps b = true ↔
    ∃ k, (a.firstBlock ≤ k ∧ k < a.firstBlock + a.blockCount) ∧
      b.firstBlock ≤ k ∧ k < b.firstBlock + b.blockCount := by
  simp only [UnitConfig.overlaps, decide_eq_true_eq]
  refine ⟨fun common => ⟨max a.firstBlock b.firstBlock, ?_⟩, fun ⟨k, inA, inB⟩ => ?_⟩
  · omega
  · omega

theorem overlapsOther_iff (s : State) (u : Fin 4) : overlapsOther s u = true ↔
    ∃ v, v ≠ u ∧ s.capture.units[v].state ≠ .idle ∧
      s.capture.configs[u].overlaps s.capture.configs[v] = true := by
  simp only [overlapsOther, List.any_eq_true, List.mem_finRange, true_and, Bool.and_eq_true, bne_iff_ne, and_assoc]

theorem unit_of_le (large : 4 ≤ q.operand.toNat) : q.unit = none := finOf_of_le large

theorem unit_of_eq {u : Fin 4} (is : q.operand.toNat = u) : q.unit = some u := finOf_of_eq is

theorem arm_index (large : 4 ≤ q.operand.toNat) : arm q s = refuse .badIndex s := by
  rw [arm, unit_of_le large]

section
variable {u : Fin 4} (is : q.operand.toNat = u)
include is

theorem arm_busy (busy : s.capture.units[u].state ≠ .idle) : arm q s = refuse .wrongState s := by
  rw [arm, unit_of_eq is]
  exact if_pos busy

theorem arm_unused (idle : s.capture.units[u].state = .idle) (unused : s.capture.configs[u].inUse = false) :
    arm q s = refuse .badValue s := by
  rw [arm, unit_of_eq is]
  exact (if_neg (not_not.mpr idle)).trans (if_pos (by rw [unused]; rfl))

theorem arm_overlap (idle : s.capture.units[u].state = .idle) (used : s.capture.configs[u].inUse = true)
    (overlap : overlapsOther s u = true) : arm q s = refuse .overlap s := by
  rw [arm, unit_of_eq is]
  exact (if_neg (not_not.mpr idle)).trans ((if_neg (by rw [used]; decide)).trans (if_pos overlap))

theorem arm_ok (idle : s.capture.units[u].state = .idle) (used : s.capture.configs[u].inUse = true)
    (apart : overlapsOther s u = false) : arm q s = finishHead .ok (.unit u)
      (putUnit u (armedRuntime s.capture.configs[u] s.capture.nextRecord) s) := by
  rw [arm, unit_of_eq is]
  exact (if_neg (not_not.mpr idle)).trans ((if_neg (by rw [used]; decide)).trans (if_neg (by rw [apart]; decide)))

/-! ### ABORT, RELEASE and REPLAY (R93, R94, R95, R108) -/

theorem abort_idle (idle : s.capture.units[u].state = .idle) : abort q s = refuse .wrongState s := by
  rw [abort, unit_of_eq is]
  dsimp only
  rw [idle]

theorem abort_draining (draining : s.capture.units[u].state = .draining) :
    abort q s = finishHead .ok (.unit u) (cutDrain u s) := by
  rw [abort, unit_of_eq is]
  dsimp only
  rw [draining]

theorem abort_other (busy : s.capture.units[u].state ≠ .idle) (other : s.capture.units[u].state ≠ .draining) :
    abort q s = finishHead .ok (.unit u) (abortUnit u s) := by
  rw [abort, unit_of_eq is]
  dsimp only
  cases state : s.capture.units[u].state with
  | idle => exact absurd state busy
  | draining => exact absurd state other
  | filling | armed | post | held | delivered => rfl

theorem release_other (other : s.capture.units[u].state ≠ .delivered) : release q s = refuse .wrongState s := by
  rw [release, unit_of_eq is]
  exact if_neg other

theorem release_delivered (delivered : s.capture.units[u].state = .delivered) :
    release q s = finishHead .ok (.unit u) (releaseUnit u s) := by
  rw [release, unit_of_eq is]
  exact if_pos delivered

theorem replay_other (other : s.capture.units[u].state ≠ .delivered) : replay q s = refuse .wrongState s := by
  rw [replay, unit_of_eq is]
  exact if_neg other

theorem replay_delivered (delivered : s.capture.units[u].state = .delivered) : replay q s =
    finishHead .ok (.unit u) (putFrozen u { s.capture.units[u] with state := .held } s) := by
  rw [replay, unit_of_eq is]
  exact if_pos delivered

end

theorem abort_index (large : 4 ≤ q.operand.toNat) : abort q s = refuse .badIndex s := by
  rw [abort, unit_of_le large]

theorem release_index (large : 4 ≤ q.operand.toNat) : release q s = refuse .badIndex s := by
  rw [release, unit_of_le large]

theorem replay_index (large : 4 ≤ q.operand.toNat) : replay q s = refuse .badIndex s := by
  rw [replay, unit_of_le large]

/-- R108: the cut mark of the drain of the unit. -/
theorem cutDrain_of_drain {u : Fin 4} {d : Drain} (drain : s.delivery.drain = some d) (own : d.unit = u) :
    cutDrain u s = { s with delivery := { s.delivery with drain := some { d with cut := true } } } := by
  rw [cutDrain, drain, Option.map_some, if_pos own]
  rfl

/-- No drain of the unit: nothing is cut. -/
theorem cutDrain_of_none {u : Fin 4} (other : ∀ d, s.delivery.drain = some d → d.unit ≠ u) : cutDrain u s = s := by
  have same : (s.delivery.drain.map fun d => if d.unit = u then { d with cut := true } else d) = s.delivery.drain := by
    cases drain : s.delivery.drain with
    | none => rfl
    | some d => rw [Option.map_some, if_neg (other d drain)]
  rw [cutDrain, same]
  rfl

theorem abortUnit_eq (u : Fin 4) (s : State) : abortUnit u s = { s with capture := { s.capture with
    units := Table.put s.capture.units u UnitRuntime.cleared
    drainQueue := s.capture.drainQueue.filter fun v => v ≠ u } } := by
  have apart : (fun v : Fin 4 => v != u) = fun v => decide (v ≠ u) := by
    funext v
    rw [Bool.eq_iff_iff, bne_iff_ne, decide_eq_true_iff]
  rw [abortUnit, apart]
  rfl

theorem releasedRuntime_eq (c : UnitConfig) (next : Epoch) : releasedRuntime c next =
    match c.afterRelease with
    | .oneShot => UnitRuntime.cleared
    | .rearm => { UnitRuntime.cleared with
        state := if c.pre = 0 then .armed else .filling
        startEpoch := some next } := rfl

/-! ### The order of epochs (section 0.8; log entry 12) -/

/-- An epoch is before those that follow it by less than half the range of epoch numbers. -/
theorem epochBefore_add (a : Epoch) {k : Nat} (pos : 0 < k) (small : k < 2147483648) :
    epochBefore a (a + BitVec.ofNat 32 k) = true := by
  have back : a - (a + BitVec.ofNat 32 k) = -BitVec.ofNat 32 k := by
    bv_omega
  rw [epochBefore, back, BitVec.msb_eq_decide, decide_eq_true_eq]
  simp only [BitVec.toNat_neg, BitVec.toNat_ofNat]
  omega

theorem epochBefore_add_left (a : Epoch) {k : Nat} (small : k < 2147483648) :
    epochBefore (a + BitVec.ofNat 32 k) a = false := by
  rw [epochBefore, BitVec.add_comm, BitVec.add_sub_cancel, BitVec.msb_eq_decide, decide_eq_false_iff_not]
  simp only [BitVec.toNat_ofNat]
  omega

theorem epochBefore_self (a : Epoch) : epochBefore a a = false := by
  rw [epochBefore, BitVec.sub_self]
  rfl

/-! ### Ring writes (R77, R81, R82) -/

section
variable {c : UnitConfig} {rec : EpochRecord} {u : UnitRuntime}

theorem unitTakes_outside (outside : u.state ∈ [UnitState.idle, .held, .draining, .delivered]) :
    unitTakes c rec u = u := by
  unfold unitTakes
  cases state : u.state with
  | idle | held | draining | delivered => rfl
  | filling | armed | post => simp [state] at outside

theorem unitTakes_filling (filling : u.state = .filling) :
    unitTakes c rec u = collect c (slotOf c rec) u := by
  unfold unitTakes
  rw [filling]

theorem unitTakes_armed (armed : u.state = .armed) :
    unitTakes c rec u = collect c (slotOf c rec) u := by
  unfold unitTakes
  rw [armed]

theorem unitTakes_post {r : CaptureRecord} (post : u.state = .post) (record : u.record = some r) :
    unitTakes c rec u =
      if epochBefore rec.epoch (r.triggerEpoch - epochs r.preActual) = true then u
      else if epochBefore rec.epoch r.triggerEpoch = true then { u with ring := u.ring ++ [slotOf c rec] }
      else windowTest c r (slotOf c rec) { u with ring := u.ring ++ [slotOf c rec] } := by
  have writes : unitTakes c rec u = collectPost c (slotOf c rec) u := by
    unfold unitTakes
    rw [post]
  rw [writes]
  unfold collectPost
  rw [record]
  rfl

/-- R77: a slot's mark is kept in CYCLES mode alone. -/
theorem slotOf_eq (c : UnitConfig) (rec : EpochRecord) : slotOf c rec =
    { epoch := rec.epoch
      values := ((List.finRange 16).filter fun ch : Fin 16 => c.mask.getLsbD ch.val).map fun ch =>
        (ch, rec.fields[ch].value)
      mark := decide (c.postMode = .cycles ∧ rec.fields[c.reference].crossed = true) } := by
  have mark : (c.postMode == .cycles && rec.fields[c.reference].crossed) =
      decide (c.postMode = .cycles ∧ rec.fields[c.reference].crossed = true) := by
    rw [Bool.eq_iff_iff, decide_eq_true_iff, Bool.and_eq_true, beq_iff_eq]
  rw [slotOf, mark]
  rfl

theorem collect_filling (t : Slot) (filling : u.state = .filling) : collect c t u =
    { u with
      ring := (if c.depth ≤ u.ring.length then u.ring.tail else u.ring) ++ [t]
      state := if c.pre ≤ ((if c.depth ≤ u.ring.length then u.ring.tail else u.ring) ++ [t]).length then .armed
        else .filling } := by
  simp only [collect, filling, true_and]

theorem collect_armed (t : Slot) (armed : u.state = .armed) : collect c t u =
    { u with ring := (if c.depth ≤ u.ring.length then u.ring.tail else u.ring) ++ [t] } := by
  simp only [collect, armed, reduceCtorEq, false_and, if_false]

/-! ### The window test (R83) -/

variable {r : CaptureRecord} {t : Slot}

/-- The window test once the mode is known: the runtime `v` with the crossings counted, frozen when the slot ends the
window. -/
theorem windowTest_of_end {reason : EndReason} {v : UnitRuntime}
    (counted : (match c.postMode with | .epochs => u | .cycles => { u with crossings := crossingsAfter u t }) = v)
    (ends : windowEnd c r u t = some reason) : windowTest c r t u = freeze t.epoch reason r v := by
  subst counted
  unfold windowTest
  rewrite [ends]
  rfl

theorem windowTest_of_no_end {v : UnitRuntime}
    (counted : (match c.postMode with | .epochs => u | .cycles => { u with crossings := crossingsAfter u t }) = v)
    (goes : windowEnd c r u t = none) : windowTest c r t u = v := by
  subst counted
  unfold windowTest
  rewrite [goes]
  rfl

theorem windowEnd_epochs (mode : c.postMode = .epochs) : windowEnd c r u t =
    if u.postEnd = some t.epoch then some .complete
    else if r.preActual + (t.epoch - r.triggerEpoch).toNat + 1 = c.depth then some .depthLimit else none := by
  unfold windowEnd
  rw [mode]
  rfl

theorem windowEnd_cycles {f : Epoch} (mode : c.postMode = .cycles) (countFrom : u.countFrom = some f) :
    windowEnd c r u t =
      if crossingsAfter u t = c.postLength then some .complete
      else if f + epochs c.guard = t.epoch then some .cycleTimeout
      else if r.preActual + (t.epoch - r.triggerEpoch).toNat + 1 = c.depth then some .depthLimit else none := by
  unfold windowEnd
  rw [mode]
  dsimp only
  rw [countFrom, Option.map_some]
  simp only [Option.some.injEq]
  rfl

/-- R83 in EPOCHS mode: the post end, then the depth. -/
theorem windowTest_epochs (mode : c.postMode = .epochs) : windowTest c r t u =
    if u.postEnd = some t.epoch then freeze t.epoch .complete r u
    else if r.preActual + (t.epoch - r.triggerEpoch).toNat + 1 = c.depth then freeze t.epoch .depthLimit r u
    else u := by
  have ends := windowEnd_epochs (r := r) (t := t) (u := u) mode
  have counted : (match c.postMode with | .epochs => u | .cycles => { u with crossings := crossingsAfter u t }) = u := by
    rw [mode]
  by_cases atEnd : u.postEnd = some t.epoch
  · rw [if_pos atEnd] at ends ⊢
    exact windowTest_of_end counted ends
  · rw [if_neg atEnd] at ends ⊢
    by_cases full : r.preActual + (t.epoch - r.triggerEpoch).toNat + 1 = c.depth
    · rw [if_pos full] at ends ⊢
      exact windowTest_of_end counted ends
    · rw [if_neg full] at ends ⊢
      exact windowTest_of_no_end counted ends

/-- R83 in CYCLES mode: the crossings counted, then the guard, then the depth. -/
theorem windowTest_cycles {f : Epoch} (mode : c.postMode = .cycles) (countFrom : u.countFrom = some f) :
    windowTest c r t u =
      if crossingsAfter u t = c.postLength then
        freeze t.epoch .complete r { u with crossings := crossingsAfter u t }
      else if f + epochs c.guard = t.epoch then
        freeze t.epoch .cycleTimeout r { u with crossings := crossingsAfter u t }
      else if r.preActual + (t.epoch - r.triggerEpoch).toNat + 1 = c.depth then
        freeze t.epoch .depthLimit r { u with crossings := crossingsAfter u t }
      else { u with crossings := crossingsAfter u t } := by
  have ends := windowEnd_cycles (r := r) (t := t) mode countFrom
  have counted : (match c.postMode with | .epochs => u | .cycles => { u with crossings := crossingsAfter u t }) =
      { u with crossings := crossingsAfter u t } := by rw [mode]
  by_cases enough : crossingsAfter u t = c.postLength
  · rw [if_pos enough] at ends ⊢
    exact windowTest_of_end counted ends
  · rw [if_neg enough] at ends ⊢
    by_cases late : f + epochs c.guard = t.epoch
    · rw [if_pos late] at ends ⊢
      exact windowTest_of_end counted ends
    · rw [if_neg late] at ends ⊢
      by_cases full : r.preActual + (t.epoch - r.triggerEpoch).toNat + 1 = c.depth
      · rw [if_pos full] at ends ⊢
        exact windowTest_of_end counted ends
      · rw [if_neg full] at ends ⊢
        exact windowTest_of_no_end counted ends

theorem crossingsAfter_of_countFrom {f : Epoch} (countFrom : u.countFrom = some f) : crossingsAfter u t =
    if epochBefore f t.epoch = true ∧ t.mark = true then min 255 (u.crossings + 1) else u.crossings := by
  unfold crossingsAfter
  rw [countFrom]
  simp only [Bool.and_eq_true]
  rfl

theorem testHeld_cons (c : UnitConfig) (r : CaptureRecord) (t : Slot) (rest : List Slot) (u : UnitRuntime) :
    testHeld c r (t :: rest) u = if (windowTest c r t u).state = .held then windowTest c r t u
      else testHeld c r rest (windowTest c r t u) := rfl

end

/-! ### Fires (R84 to R89) -/

theorem fireRequest_cons {f : FireRequest} {fires : List FireRequest} (waiting : s.capture.fires = f :: fires) :
    exec .fireRequest s = .next (takeFire f { s with capture := { s.capture with fires := fires } }) := by
  show Host.Outcome.next (fireRequest s) = _
  rw [fireRequest, waiting]
  rfl

section
variable {f : FireRequest}

theorem takeFire_outside (outside : s.capture.units[f.unit].state ∈ [UnitState.idle, .held, .draining, .delivered]) :
    takeFire f s = returnAnswer f .missed s := by
  unfold takeFire
  dsimp only
  cases state : s.capture.units[f.unit].state with
  | idle | held | draining | delivered => rfl
  | filling | armed | post => rw [state] at outside; simp at outside

theorem takeFire_collecting {e : Epoch} (collecting : s.capture.units[f.unit].state ∈ [UnitState.filling, .armed])
    (floor : ringFloor s.capture.units[f.unit] = some e) : takeFire f s =
      if epochBefore f.epoch e then returnAnswer f .missed s else startCapture f e s := by
  unfold takeFire
  dsimp only
  cases state : s.capture.units[f.unit].state with
  | filling | armed => dsimp only; rw [floor]
  | idle | held | draining | delivered | post => rw [state] at collecting; simp at collecting

theorem takeFire_post (post : s.capture.units[f.unit].state = .post) : takeFire f s =
    returnAnswer f .retriggered
      (putUnit f.unit (retriggered s.capture.configs[f.unit] f.epoch s.capture.units[f.unit]) s) := by
  unfold takeFire
  dsimp only
  rw [post]

end

/-- R84: the floor of a ring is its oldest epoch, or the start epoch while it is empty. -/
theorem ringFloor_eq (u : UnitRuntime) :
    ringFloor u = if u.ring = [] then u.startEpoch else u.ring.head?.map (·.epoch) := by
  unfold ringFloor
  cases u.ring with
  | nil => rfl
  | cons t rest => rfl

theorem postRuntime_eq (c : UnitConfig) (r : CaptureRecord) (u : UnitRuntime) : postRuntime c r u =
    { u with
      state := .post
      ring := u.ring.filter fun t => !epochBefore t.epoch (r.triggerEpoch - epochs r.preActual)
      record := some r
      postEnd := if c.postMode = .epochs then some (r.triggerEpoch + epochs c.postLength) else none
      countFrom := if c.postMode = .epochs then none else some r.triggerEpoch
      crossings := 0 } := by
  unfold postRuntime
  cases c.postMode with
  | epochs => rfl
  | cycles => rfl

theorem startCapture_eq (f : FireRequest) (floor : Epoch) (s : State) : startCapture f floor s =
    { s with
      capture := { s.capture with
        number := s.capture.number + 1
        units := Table.put s.capture.units f.unit (startedRuntime s.capture.configs[f.unit]
          (startRecord s.capture.configs[f.unit] f.unit s.capture.number floor f) s.capture.units[f.unit])
        drainQueue := s.capture.drainQueue ++ if (startedRuntime s.capture.configs[f.unit]
          (startRecord s.capture.configs[f.unit] f.unit s.capture.number floor f)
            s.capture.units[f.unit]).state = .held then [f.unit] else [] }
      conditions := { s.conditions with answers := s.conditions.answers ++
        if s.conditions.resetsTaken ≤ s.capture.resetsTaken then
          [{ trigger := f.trigger
             answer := if preActualOf s.capture.configs[f.unit] floor f.epoch < s.capture.configs[f.unit].pre
               then .truncated else .started
             waiter := f.waiter }]
        else [] } } := by
  unfold startCapture
  dsimp only
  rw [returnAnswer_eq, putFrozen_eq]
  simp only [startRecord, decide_eq_true_eq]
  rfl

section
variable {c : UnitConfig} {m : Epoch} {u : UnitRuntime} {r : CaptureRecord}

/-- R88: a retrigger counted, and nothing else. -/
def UnitRuntime.counted (u : UnitRuntime) (r : CaptureRecord) : UnitRuntime :=
  { u with record := some { r with retriggers := min 255 (r.retriggers + 1) } }

variable (record : u.record = some r)
include record

theorem retriggered_ignore (policy : c.retrigger = .ignore) : retriggered c m u = u.counted r := by
  unfold retriggered
  rw [policy, record]
  rfl

theorem retriggered_epochs {e : Epoch} (policy : c.retrigger = .extend) (mode : c.postMode = .epochs)
    (postEnd : u.postEnd = some e) : retriggered c m u = { u.counted r with
      postEnd := some (if epochBefore e (m + epochs c.postLength) then m + epochs c.postLength else e) } := by
  unfold retriggered
  rw [policy, mode, record]
  dsimp only
  rw [postEnd]
  rfl

theorem retriggered_cycles {e : Epoch} (policy : c.retrigger = .extend) (mode : c.postMode = .cycles)
    (countFrom : u.countFrom = some e) : retriggered c m u =
      if epochBefore e m then { u.counted r with
        countFrom := some m
        crossings := u.ring.countP fun t => epochBefore m t.epoch && t.mark }
      else u.counted r := by
  obtain ⟨state, startEpoch, ring, _, postEnd, _, crossings, attempt⟩ := u
  cases record
  cases countFrom
  unfold retriggered
  rw [policy, mode, List.countP_eq_length_filter]
  rfl

end

end Sys2Proof.Machine

namespace Sys2Proof.Proofs.Units
open Sys2Proof.Machine

/-- Settles O28: the checks in their order, then the unit armed. -/
theorem armRequest : Obligations.ArmRequest := by
  rintro s q rest ⟨idle, queued, row⟩
  rw [exec_arm, execHead_run idle queued row]
  refine ⟨fun large => next_of_refuse queued (arm_index large), fun u is => ?_⟩
  intro c blocks overlap
  have overlap_iff : overlapsOther s u = true ↔ overlap := by
    simp only [overlapsOther_iff, overlaps_iff]
    rfl
  refine ⟨fun busy => next_of_refuse queued (arm_busy is busy),
    fun isIdle unused => next_of_refuse queued (arm_unused is isIdle unused),
    fun isIdle used common => next_of_refuse queued (arm_overlap is isIdle used (overlap_iff.mpr common)),
    fun isIdle used apart => ?_⟩
  rw [arm_ok is isIdle used (Bool.eq_false_iff.mpr (mt overlap_iff.mp apart)),
    finishHead_eq_replied (by simpa using queued)]
  rfl

/-- Settles O29: each request by the state of its unit. -/
theorem abortReleaseReplay : Obligations.AbortReleaseReplay := by
  refine ⟨?_, fun s q rest => ⟨?_, ?_⟩⟩
  · rintro s q rest ⟨idle, queued, row⟩
    rw [exec_abort, execHead_run idle queued row]
    refine ⟨fun large => next_of_refuse queued (abort_index large), fun u is =>
      ⟨fun isIdle => next_of_refuse queued (abort_idle is isIdle), fun d draining drain own => ?_,
        fun draining other => ?_, fun busy other => ?_⟩⟩
    · rw [abort_draining is draining, cutDrain_of_drain drain own, finishHead_eq_replied (by simpa using queued)]
    · rw [abort_draining is draining, cutDrain_of_none other, finishHead_eq_replied queued]
    · rw [abort_other is busy other, abortUnit_eq, finishHead_eq_replied (by simpa using queued)]
      rfl
  · rintro ⟨idle, queued, row⟩
    rw [exec_release, execHead_run idle queued row]
    refine ⟨fun large => next_of_refuse queued (release_index large), fun u is =>
      ⟨fun other => next_of_refuse queued (release_other is other), fun delivered => ?_⟩⟩
    rw [release_delivered is delivered, finishHead_eq_replied (by simpa using queued), releaseUnit, releasedRuntime_eq]
    rfl
  · rintro ⟨idle, queued, row⟩
    rw [exec_replay, execHead_run idle queued row]
    refine ⟨fun large => next_of_refuse queued (replay_index large), fun u is =>
      ⟨fun other => next_of_refuse queued (replay_other is other), fun delivered => ?_⟩⟩
    rw [replay_delivered is delivered, putFrozen_eq, finishHead_eq_replied (by simpa using queued)]
    rfl

/-- Settles O30: the order of epochs, the ring write by the unit's state, and the window test by its mode. -/
theorem ringWriteAndWindowTest : Obligations.RingWriteAndWindowTest := by
  refine ⟨fun a k pos small => ⟨epochBefore_add a pos small, epochBefore_add_left a small⟩, epochBefore_self,
    fun c rec u => ?_, fun c r t u => ?_⟩
  · intro slot ring
    have slot_eq : slotOf c rec = slot := slotOf_eq c rec
    refine ⟨unitTakes_outside, fun filling => ?_, fun armed => ?_, fun r post record => ?_⟩
    · rw [unitTakes_filling filling, slot_eq, collect_filling slot filling]
    · rw [unitTakes_armed armed, slot_eq, collect_armed slot armed]
    · rw [unitTakes_post post record, slot_eq]
      rfl
  · intro post frozen depth
    refine ⟨windowTest_epochs, fun f mode countFrom => ?_⟩
    intro n v
    have counted : crossingsAfter u t = n := crossingsAfter_of_countFrom countFrom
    rw [windowTest_cycles mode countFrom, counted]
    rfl

/-- Settles O31: the units take the record side by side. -/
theorem captureTakesARecord : Obligations.CaptureTakesARecord := by
  intro s o rest waiting current after
  show Host.Outcome.next (captureRecordTake s) = _
  rw [captureRecordTake, waiting]
  dsimp only
  rw [if_pos current, unitsTake_eq]
  rfl

/-- Settles O32: the slots tested one after the other, then the fire by the unit's state. -/
theorem fireAnswered : Obligations.FireAnswered := by
  refine ⟨fun c r u => ⟨rfl, fun t rest => testHeld_cons c r t rest u⟩, fun s f rest waiting => ?_,
    fun s f rest r waiting post record => ?_⟩
  · intro u c answer floor missed
    have run := fireRequest_cons waiting
    have isMissed (taken : takeFire f { s with capture := { s.capture with fires := rest } } =
        returnAnswer f .missed { s with capture := { s.capture with fires := rest } }) : missed := by
      show exec .fireRequest s = _
      rw [run, taken, returnAnswer_eq]
    refine ⟨fun outside => isMissed (takeFire_outside outside), fun e collecting isFloor => ?_⟩
    have taken := takeFire_collecting (s := { s with capture := { s.capture with fires := rest } }) collecting
      ((ringFloor_eq u).trans isFloor)
    refine ⟨fun early => isMissed (taken.trans (if_pos early)), fun inTime => ?_⟩
    intro p r ring after
    have after_eq : startedRuntime c (startRecord c f.unit s.capture.number e f) u = after := by
      rw [startedRuntime, postRuntime_eq]
      rfl
    rw [if_neg (by rw [inTime]; decide), startCapture_eq] at taken
    rw [run, taken, ← after_eq]
    rfl
  · have run := fireRequest_cons waiting
    rw [takeFire_post (by exact post), returnAnswer_eq] at run
    intro u c counted answered
    have isAnswered {v : UnitRuntime} (is : retriggered c f.epoch u = v) : answered v := by
      subst is
      exact run
    refine ⟨fun ignore => isAnswered (retriggered_ignore record ignore), fun e extend mode postEnd =>
      isAnswered (retriggered_epochs record extend mode postEnd), fun e extend mode countFrom => ?_⟩
    have cycles := retriggered_cycles (m := f.epoch) record extend mode countFrom
    exact ⟨fun notLater => isAnswered (cycles.trans (if_neg (by rw [notLater]; decide))),
      fun later => isAnswered (cycles.trans (if_pos later))⟩

end Sys2Proof.Proofs.Units
end

section
/-! Capture delivery and the sample stream (chapters 6 and 7): the drain and the stream queue, event by event. -/

namespace Sys2Proof.Machine

variable {s : State}

/-! ### The start of a drain (R100) -/

theorem mayStartDrain_iff (s : State) : mayStartDrain s = true ↔
    s.delivery.drain = none ∧ s.link.state = .up ∧ LinkReport.linkLoss ∉ s.delivery.inbox ∧
      s.delivery.resetsTaken = s.capture.resetsTaken := by
  simp only [mayStartDrain, Bool.and_eq_true, Option.isNone_iff_eq_none, beq_iff_eq, Bool.not_eq_true',
    ← Bool.not_eq_true, lossWaits_iff, deliveryInStep_iff, and_assoc]

theorem drainStart_next {u : Fin 4} {rest : List (Fin 4)} {r : CaptureRecord} (may : mayStartDrain s = true)
    (next : s.capture.drainQueue = u :: rest) (record : s.capture.units[u].record = some r) :
    exec .drainStart s = .next (arbitrate (startDrain u rest r s)) := by
  show Host.Outcome.next (drainStart s) = _
  rw [drainStart, if_pos may, next]
  dsimp only
  rw [record]

/-! ### A link loss at the Delivery Engine (R110, R111) -/

/-- What a link loss leaves of a source's frames: nothing on the link concerns the Delivery Engine any more. -/
theorem giveUpFrames_delivery_eq (s : State) : giveUpFrames .delivery s = { s with
    link := { s.link with tx := s.link.tx.map fun t => if t.source = .delivery then { t with void := true } else t }
    delivery := { s.delivery with inbox := s.delivery.inbox.map LinkReport.voided } } := rfl

section
variable {rest : List LinkReport} (loss : s.delivery.inbox = .linkLoss :: rest)
include loss

theorem linkLossDelivery_idle (idle : s.delivery.drain = none) : exec .linkLossDelivery s =
    .next (endDrain (giveUpFrames .delivery { s with delivery := { s.delivery with inbox := rest } })) := by
  have stays : endDrain (giveUpFrames .delivery { s with delivery := { s.delivery with inbox := rest } }) =
      giveUpFrames .delivery { s with delivery := { s.delivery with inbox := rest } } := by
    simp [endDrain, giveUpFrames_delivery_eq, State.setDelivery, idle]
  rw [stays]
  show Host.Outcome.next (linkLossDelivery s) = _
  rw [linkLossDelivery, loss]
  dsimp only
  rw [(giveUpFrames_delivery_kept _ _).1, State.setDelivery_delivery, idle]
  rfl

theorem linkLossDelivery_drain {d : Drain} (drain : s.delivery.drain = some d) : exec .linkLossDelivery s =
    .next (breakDrain d (giveUpFrames .delivery { s with delivery := { s.delivery with inbox := rest } })) := by
  show Host.Outcome.next (linkLossDelivery s) = _
  rw [linkLossDelivery, loss]
  dsimp only
  rw [(giveUpFrames_delivery_kept _ _).1, State.setDelivery_delivery, drain]
  rfl

end

theorem breakDrain_alone {d : Drain} (apart : deliveryInStep s = false) : breakDrain d s = endDrain s := by
  rw [breakDrain, apart]
  rfl

theorem breakDrain_cut {d : Drain} (inStep : deliveryInStep s = true) (cut : d.cut = true) :
    breakDrain d s = endDrain (abortUnit d.unit s) := by
  rw [breakDrain, inStep, cut]
  rfl

theorem breakDrain_uncut {d : Drain} (inStep : deliveryInStep s = true) (uncut : d.cut = false) :
    breakDrain d s = endDrain (returnUnit d.unit s) := by
  rw [breakDrain, inStep, uncut]
  rfl

/-! ### The completion of a capture frame (R106 to R109) -/

section
variable {rest : List LinkReport} {void : Bool} (completion : s.delivery.inbox = .completion void :: rest)
include completion

theorem captureFrameCompletion_idle (idle : s.delivery.drain = none) : exec .captureFrameCompletion s =
    .next (arbitrate { s with delivery := { s.delivery with inbox := rest } }) := by
  show Host.Outcome.next (captureFrameCompletion s) = _
  rw [captureFrameCompletion, takeCaptureCompletion, completion]
  dsimp only
  rw [State.setDelivery_delivery, idle]
  rfl

theorem captureFrameCompletion_drain {d : Drain} (drain : s.delivery.drain = some d) :
    exec .captureFrameCompletion s = .next (arbitrate
      (let after : State := { s with delivery := { s.delivery with inbox := rest } }
       if void || d.mark == .offered then after
       else if deliveryInStep s then
         match s.capture.units[d.unit].record with
         | none => after
         | some r => frameCompleted d r after
       else frameCompletedAlone d after)) := by
  show Host.Outcome.next (captureFrameCompletion s) = _
  rw [captureFrameCompletion, takeCaptureCompletion, completion]
  dsimp only
  rw [State.setDelivery_delivery, drain]
  rfl

end

section
variable {d : Drain} {r : CaptureRecord}

theorem frameCompleted_header (at_ : d.position = .header) : frameCompleted d r s =
    if d.cut then offerEnd d d.segmentsDone .aborted r s else offerSegment d 0 r s := by
  rw [frameCompleted, at_]

theorem frameCompleted_segment {k : Nat} (at_ : d.position = .segment k) : frameCompleted d r s =
    if d.cut then offerEnd { d with segmentsDone := d.segmentsDone + 1 } (d.segmentsDone + 1) .aborted r s
    else if k + 1 < segmentCount s.capture.units[d.unit].ring.length then
      offerSegment { d with segmentsDone := d.segmentsDone + 1 } (k + 1) r s
    else offerEnd { d with segmentsDone := d.segmentsDone + 1 }
      (segmentCount s.capture.units[d.unit].ring.length) .complete r s := by
  rw [frameCompleted, at_]

theorem frameCompleted_aborted (at_ : d.position = .finish .aborted) :
    frameCompleted d r s = endDrain (abortUnit d.unit s) := by
  rw [frameCompleted, at_]

theorem frameCompleted_complete (at_ : d.position = .finish .complete) : frameCompleted d r s =
    if d.cut then endDrain (abortUnit d.unit (raise .captureDelivered s))
    else endDrain (deliverUnit d.unit (raise .captureDelivered s)) := by
  rw [frameCompleted, at_]

/-- R107: the unit of a completed drain, by its hand-off and its policy after release. -/
theorem deliverUnit_eq (u : Fin 4) (s : State) : deliverUnit u s = { s with capture := { s.capture with
    units := Table.put s.capture.units u
      (match s.capture.configs[u].handOff, s.capture.configs[u].afterRelease with
        | .retain, _ => { s.capture.units[u] with state := .delivered }
        | .auto, .oneShot => UnitRuntime.cleared
        | .auto, .rearm => { UnitRuntime.cleared with
            state := if s.capture.configs[u].pre = 0 then .armed else .filling
            startEpoch := some s.capture.nextRecord }) } } := by
  rw [deliverUnit]
  cases s.capture.configs[u].handOff with
  | retain => rfl
  | auto =>
    dsimp only
    rw [releaseUnit, releasedRuntime_eq]
    cases s.capture.configs[u].afterRelease with
    | oneShot => rfl
    | rearm => rfl

end

/-! ### The sample stream (R115 to R122) -/

theorem streamRecordTake_next {o : Offered} {rest : List Offered} (waiting : s.stream.records = o :: rest)
    (current : o.run = s.stream.resetsTaken) : exec .streamRecordTake s = .next (arbitrate
      (streamRecord o.record { s with stream := { s.stream with records := rest } })) := by
  show Host.Outcome.next (streamRecordTake s) = _
  rw [streamRecordTake, waiting]
  dsimp only
  rw [if_pos current]
  rfl

/-- R115: the selection names a channel exactly when one is due. -/
theorem selection_ne_nil_iff (view : Fin 16 → StreamView) (counters : Table Nat 16) (rec : EpochRecord) :
    selection view counters rec ≠ [] ↔ ∃ c : Fin 16, channelDue (view c) counters[c] = true := by
  simp only [selection, ne_eq, List.map_eq_nil_iff, List.filter_eq_nil_iff, List.mem_finRange, true_implies, not_forall,
    not_not]

/-- What a record leaves of the stream before any frame is queued (R115). -/
def recordCounted (s : State) : StreamForwarder :=
  { s.stream with
    counters := Table.mapAll (fun c n => counterAfter (viewOf s.channels.table s.stream.reloads c) n) s.stream.counters
    reloads := recordPassed s.stream.reloads }

section
variable {rec : EpochRecord}

theorem streamRecord_counted (none : (∀ c : Fin 16,
      channelDue (viewOf s.channels.table s.stream.reloads c) s.stream.counters[c] = false) ∨
      s.mgmt.control.streamEnable = false) : streamRecord rec s = { s with stream := recordCounted s } := by
  refine if_neg fun both => ?_
  obtain ⟨chosen, enabled⟩ := both
  obtain ⟨c, due⟩ := (selection_ne_nil_iff _ _ _).mp chosen
  obtain quiet | disabled := none
  · exact Bool.false_ne_true ((quiet c).symm.trans due)
  · exact Bool.false_ne_true (disabled.symm.trans enabled)

variable (due : ∃ c : Fin 16, channelDue (viewOf s.channels.table s.stream.reloads c) s.stream.counters[c] = true)
  (enabled : s.mgmt.control.streamEnable = true)
include due enabled

theorem streamRecord_built : streamRecord rec s = queueFrame rec.epoch
    (selection (viewOf s.channels.table s.stream.reloads) s.stream.counters rec) { s with stream := recordCounted s } :=
  if_pos ⟨(selection_ne_nil_iff _ _ _).mpr due, enabled⟩

end

/-- R118: a frame joins a queue with room. -/
theorem queueFrame_room (room : s.stream.queue.length < 16) (epoch : Epoch) (values : List (Fin 16 × Option Value)) :
    queueFrame epoch values s = { s with stream := { s.stream with
      queue := s.stream.queue ++
        [{ epoch := epoch, sequence := s.stream.sequence, gapCount := s.stream.gapCount, values := values }]
      sequence := s.stream.sequence + 1
      gapCount := 0 } } := if_pos room

/-- R119: a frame is lost to a full queue, and counted. -/
theorem queueFrame_full (full : 16 ≤ s.stream.queue.length) (epoch : Epoch) (values : List (Fin 16 × Option Value)) :
    queueFrame epoch values s = { s with
      stream := { s.stream with gapCount := min 65535 (s.stream.gapCount + 1) }
      alerts := { s.alerts with raises := s.alerts.raises ++ [.streamGap] } } := if_neg (Nat.not_lt.mpr full)

theorem decimationReload_next {r : Reload} {rest : List Reload} (waiting : s.stream.reloads = r :: rest) :
    exec .decimationReload s = .next { s with stream := { s.stream with
      reloads := rest, counters := Table.put s.stream.counters r.channel r.divisor } } := by
  show Host.Outcome.next (decimationReload s) = _
  rw [decimationReload, waiting]
  rfl

section
variable {rest : List LinkReport}

theorem streamFrameCompletion_next {void : Bool} (completion : s.stream.inbox = .completion void :: rest) :
    exec .streamFrameCompletion s = .next (arbitrate
      (if void || s.stream.headMark == .offered then { s with stream := { s.stream with inbox := rest } }
       else { s with stream := { s.stream with
        inbox := rest, queue := s.stream.queue.tail, headMark := .offered } })) := by
  show Host.Outcome.next (streamFrameCompletion s) = _
  rw [streamFrameCompletion, takeStreamCompletion, completion]
  rfl

theorem linkLossStream_next (loss : s.stream.inbox = .linkLoss :: rest) : exec .linkLossStream s = .next { s with
    link := s.link.giveUp .stream
    stream := { s.stream with
      inbox := rest.map LinkReport.voided
      queue := []
      headMark := .offered
      gapCount := min 65535 (s.stream.gapCount + s.stream.queue.length) } } := by
  show Host.Outcome.next (linkLossStream s) = _
  rw [linkLossStream, loss]
  rfl

end

end Sys2Proof.Machine

namespace Sys2Proof.Proofs.Delivery
open Sys2Proof.Machine

/-- Settles O33: the start under its conditions, and the loss by the drain it finds. -/
theorem drainStartsAndIsBroken : Obligations.DrainStartsAndIsBroken := by
  refine ⟨fun s u rest r idle up quiet inStep next record => ?_, fun s rest loss => ?_⟩
  · intro attempt
    rw [drainStart_next ((mayStartDrain_iff s).mpr ⟨idle, up, quiet, inStep⟩) next record]
    rfl
  · intro link lost
    refine ⟨fun dropped => ?_, fun d drain inStep => ?_⟩
    · cases drain : s.delivery.drain with
      | none => exact linkLossDelivery_idle loss drain
      | some d =>
        have apart : s.delivery.resetsTaken ≠ s.capture.resetsTaken :=
          dropped.resolve_left (by rw [drain]; exact nofun)
        exact (linkLossDelivery_drain loss drain).trans (congrArg _ (breakDrain_alone (beq_eq_false_iff_ne.mpr apart)))
    · have inStep' : deliveryInStep s = true := (deliveryInStep_iff s).mpr inStep
      refine ⟨fun uncut => ?_, fun cut => ?_⟩
      · exact (linkLossDelivery_drain loss drain).trans (congrArg _ (breakDrain_uncut inStep' uncut))
      · have broken := breakDrain_cut
          (s := giveUpFrames .delivery { s with delivery := { s.delivery with inbox := rest } }) inStep' cut
        rw [abortUnit_eq] at broken
        exact (linkLossDelivery_drain loss drain).trans (congrArg _ broken)

/-- Settles O34: each completion by the drain's position and cut. -/
theorem drainAdvances : Obligations.DrainAdvances := by
  refine ⟨fun s void rest completion => ?_, fun s rest d r completion drain sent inStep record => ?_⟩
  · intro taken
    refine ⟨fun idle => ?_, fun d notVoid drain sent apart => ?_⟩
    · have nothing : exec .captureFrameCompletion s =
          .next (arbitrate { s with delivery := { s.delivery with inbox := rest } }) := by
        cases drain : s.delivery.drain with
        | none => exact captureFrameCompletion_idle completion drain
        | some d =>
          rw [captureFrameCompletion_drain completion drain]
          refine congrArg _ (congrArg arbitrate (if_pos ?_))
          rw [Bool.or_eq_true, beq_iff_eq]
          refine idle.imp_right fun offered => ?_
          obtain none_ | ⟨d', drain', offered⟩ := offered
          · rw [drain] at none_
            cases none_
          · rw [drain, Option.some.injEq] at drain'
            rw [drain', offered]
      show exec .captureFrameCompletion s = _
      rw [nothing, List.append_nil]
    · have run := captureFrameCompletion_drain completion drain
      rw [notVoid, sent] at run
      have apart' : ¬ deliveryInStep s = true := fun inStep => apart ((deliveryInStep_iff s).mp inStep)
      have alone {t : State}
          (is : frameCompletedAlone d { s with delivery := { s.delivery with inbox := rest } } = t) :
          exec .captureFrameCompletion s = .next (arbitrate t) :=
        run.trans (congrArg _ (congrArg arbitrate ((if_neg apart').trans is)))
      cases position : d.position with
      | header =>
        show exec .captureFrameCompletion s = _
        rw [alone (by rw [frameCompletedAlone, position]), List.append_nil, ← drain]
      | segment k =>
        show exec .captureFrameCompletion s = _
        rw [alone (by rw [frameCompletedAlone, position]), List.append_nil]
        rfl
      | finish o =>
        cases o with
        | aborted =>
          show exec .captureFrameCompletion s = _
          rw [alone (by rw [frameCompletedAlone, position]), List.append_nil]
          rfl
        | complete => exact alone (by rw [frameCompletedAlone, position]; rfl)
  · intro ring c total engine offer segment finish idle aborted delivered ended
    have run : exec .captureFrameCompletion s = .next (arbitrate
        (frameCompleted d r { s with delivery := { s.delivery with inbox := rest } })) := by
      rw [captureFrameCompletion_drain completion drain, sent, (deliveryInStep_iff s).mpr inStep, record]
      rfl
    have does {t : State} (is : frameCompleted d r { s with delivery := { s.delivery with inbox := rest } } = t) :
        exec .captureFrameCompletion s = .next (arbitrate t) := by rw [run, is]
    have aborts := frameCompleted_aborted (d := d) (r := r)
      (s := { s with delivery := { s.delivery with inbox := rest } })
    have completes := frameCompleted_complete (d := d) (r := r)
      (s := { s with delivery := { s.delivery with inbox := rest } })
    rw [abortUnit_eq] at aborts completes
    rw [deliverUnit_eq] at completes
    cases position : d.position with
    | header =>
      cases cut : d.cut with
      | true => exact does ((frameCompleted_header position).trans (if_pos cut))
      | false => exact does ((frameCompleted_header position).trans (if_neg (by rw [cut]; decide)))
    | segment k =>
      cases cut : d.cut with
      | true => exact does ((frameCompleted_segment position).trans (if_pos cut))
      | false =>
        have uncut := does ((frameCompleted_segment position).trans (if_neg (by rw [cut]; decide)))
        show if k + 1 < total then _ else _
        by_cases more : k + 1 < total
        · rw [if_pos more]
          exact uncut.trans (congrArg _ (congrArg arbitrate (if_pos more)))
        · rw [if_neg more]
          exact uncut.trans (congrArg _ (congrArg arbitrate (if_neg more)))
    | finish o =>
      cases o with
      | aborted =>
        show exec .captureFrameCompletion s = _
        rw [does (aborts position), List.append_nil]
        rfl
      | complete =>
        cases cut : d.cut with
        | true => exact does ((completes position).trans (if_pos cut))
        | false => exact does ((completes position).trans (if_neg (by rw [cut]; decide)))

end Sys2Proof.Proofs.Delivery

namespace Sys2Proof.Proofs.Stream
open Sys2Proof.Machine

/-- Settles O35: the frame of the due channels queued, lost or not built. -/
theorem streamTakesARecord : Obligations.StreamTakesARecord := by
  intro s o rest waiting current view counts due chosen f frame
  have view_eq : viewOf s.channels.table s.stream.reloads = view := by
    funext c
    have test : (fun r : Reload => r.channel == c && r.before != 0) =
        fun r => decide (r.channel = c ∧ r.before ≠ 0) := by
      funext r
      rw [Bool.eq_iff_iff, Bool.and_eq_true, beq_iff_eq, bne_iff_ne, decide_eq_true_iff]
    rewrite [viewOf, test]
    rfl
  have run := streamRecordTake_next waiting current
  have counted : recordCounted { s with stream := { s.stream with records := rest } } = f := by
    have counter (c : Fin 16) : counterAfter (view c) s.stream.counters[c] = if due c then (view c).divisor
        else if counts c then s.stream.counters[c] - 1 else s.stream.counters[c] := by
      show (if counts c then _ else _) = if (counts c && s.stream.counters[c] - 1 == 0) = true then _ else _
      cases counts c with
      | true => simp
      | false => simp
    have counters : Table.mapAll (fun c n => counterAfter (viewOf s.channels.table s.stream.reloads c) n)
        s.stream.counters = f.counters := by
      rw [view_eq, Table.mapAll]
      exact congrArg Vector.ofFn (funext counter)
    rw [recordCounted]
    dsimp only
    rewrite [counters]
    rfl
  have chosen_eq : selection (viewOf s.channels.table s.stream.reloads) s.stream.counters o.record = chosen := by
    rw [view_eq]
    rfl
  have due_eq : (fun c : Fin 16 =>
      channelDue (viewOf s.channels.table s.stream.reloads c) s.stream.counters[c]) = due := by
    rw [view_eq]
    rfl
  refine ⟨fun none => ?_, fun dues enabled room => ?_, fun dues enabled full => ?_⟩
  · rw [← due_eq] at none
    rw [run, streamRecord_counted (by exact none), counted]
  · rw [← due_eq] at dues
    rw [run, streamRecord_built (by exact dues) (by exact enabled), counted, queueFrame_room (by exact room)]
    dsimp only
    rw [chosen_eq]
  · rw [← due_eq] at dues
    rw [run, streamRecord_built (by exact dues) (by exact enabled), counted, queueFrame_full (by exact full)]

/-- Settles O36: the reload, the completion and the loss. -/
theorem streamReloadCompletionAndLoss : Obligations.StreamReloadCompletionAndLoss := by
  intro s
  refine ⟨fun r rest => decimationReload_next, fun rest completion sent => ?_, fun void rest completion idle => ?_,
    fun rest => linkLossStream_next⟩
  · rw [streamFrameCompletion_next completion, sent]
    rfl
  · rw [streamFrameCompletion_next completion, if_pos (by rwa [Bool.or_eq_true, beq_iff_eq])]

end Sys2Proof.Proofs.Stream
end

section
/-! Alerts (chapter 9): raises, the completions, the re-announce timer, ALERT-ACK and link loss, as equations. -/

namespace Sys2Proof.Machine

variable {s : State}

/-! ### Raises and the offer rule (R136, R137, R141) -/

/-- R137, R141: the offer rule at the enable set of the control record. -/
theorem settleAlerts_eq (s : State) : settleAlerts s = { s with alerts := { s.alerts with
    offer :=
      if s.alerts.state = .quiet ∧ s.alerts.offer = .none ∧ s.alerts.pending &&& s.mgmt.control.alerts ≠ 0 then
        .newAlert .offered
      else if s.alerts.offer = .newAlert .offered ∧ s.alerts.pending &&& s.mgmt.control.alerts = 0 then .none
      else s.alerts.offer } } := by
  rw [settleAlerts, AlertUnit.settle_eq]
  rfl

/-- A set has a member exactly when it holds the set of that member alone. -/
theorem has_iff_and_single {n : Nat} (b : BitVec n) (i : Fin n) : has b i = true ↔ b &&& single n i = single n i := by
  refine ⟨fun member => ?_, fun holds => ?_⟩
  · refine BitVec.eq_of_getLsbD_eq fun k small => ?_
    show has (b &&& single n i) ⟨k, small⟩ = has (single n i) ⟨k, small⟩
    by_cases at_i : (⟨k, small⟩ : Fin n) = i
    · rw [at_i, has_and, member, Bool.true_and]
    · rw [has_and, has_single, decide_eq_false at_i, Bool.and_false]
  · have at_i : has (b &&& single n i) i = has (single n i) i := by rw [holds]
    rw [has_and, has_single, decide_eq_true rfl, Bool.and_true] at at_i
    exact at_i

/-- R136: the source joins the pending set, and the re-raised set when a NEW alert in transmission carries it. -/
theorem AlertUnit.take_eq (src : AlertSource) (a : AlertUnit) : a.take src = { a with
    raises := a.raises.erase src
    pending := a.pending ||| single 7 (AlertSource.bit src)
    reRaised :=
      if a.offer = .newAlert .inTransmission ∧ a.sent &&& single 7 (AlertSource.bit src) = single 7 (AlertSource.bit src)
      then a.reRaised ||| single 7 (AlertSource.bit src) else a.reRaised } := by
  simp only [AlertUnit.take, has_iff_and_single]
  rfl

theorem alertRaise_next {src : AlertSource} (onTheWay : src ∈ s.alerts.raises) : exec (.alertRaise src) s =
    .next (arbitrate (settleAlerts { s with alerts := s.alerts.take src })) :=
  congrArg _ (if_pos onTheWay)

/-! ### The completion of an alert (R138, R139, R140) -/

section
variable {rest : List LinkReport}

theorem alertFrameCompletion_next {void : Bool} (completion : s.alerts.inbox = .completion void :: rest) :
    exec .alertFrameCompletion s = .next
      (if void then { s with alerts := { s.alerts with inbox := rest } }
       else match s.alerts.offer with
        | .newAlert .inTransmission =>
          arbitrate (settleAlerts { s with alerts := { s.alerts with inbox := rest }.newCompleted })
        | .repeatAlert .inTransmission =>
          arbitrate (settleAlerts { s with alerts := { s.alerts with inbox := rest }.repeatCompleted })
        | _ => { s with alerts := { s.alerts with inbox := rest } }) := by
  show Host.Outcome.next (alertFrameCompletion s) = _
  rewrite [alertFrameCompletion, completion]
  rfl

theorem linkLossAlert_next (loss : s.alerts.inbox = .linkLoss :: rest) : exec .linkLossAlert s = .next
    (arbitrate (settleAlerts { s with
      link := s.link.giveUp .alert
      alerts := AlertUnit.linkLoss { s.alerts with inbox := rest.map LinkReport.voided } })) := by
  show Host.Outcome.next (linkLossAlert s) = _
  rewrite [linkLossAlert, loss]
  rfl

end

/-- R138: what completes leaves the pending set, but for what was raised again meanwhile. -/
theorem AlertUnit.newCompleted_eq (a : AlertUnit) : a.newCompleted = { a with
    reported := a.sent
    outstanding := some a.sequence
    sequence := a.sequence + 1
    pending := (a.pending &&& ~~~ a.sent) ||| (a.pending &&& a.reRaised)
    repeatCount := 0
    state := .outstanding
    timerRunning := true
    offer := .none
    sent := 0
    reRaised := 0 } := by
  have shared : a.pending &&& (~~~ a.sent ||| a.reRaised) =
      (a.pending &&& ~~~ a.sent) ||| (a.pending &&& a.reRaised) := by
    refine BitVec.eq_of_getLsbD_eq fun i _ => ?_
    simp only [BitVec.getLsbD_and, BitVec.getLsbD_or, Bool.and_or_distrib_left]
  rw [newCompleted, shared]

/-- R139: the completion of a REPEAT restarts the timer while the alert is OUTSTANDING. -/
theorem AlertUnit.repeatCompleted_outstanding {a : AlertUnit} (outstanding : a.state = .outstanding) :
    a.repeatCompleted = { a with offer := .none, timerRunning := true } := by
  rw [repeatCompleted, if_pos outstanding]

/-- R140: in QUIET it does not. -/
theorem AlertUnit.repeatCompleted_quiet {a : AlertUnit} (quiet : a.state = .quiet) :
    a.repeatCompleted = { a with offer := .none } := by
  rw [repeatCompleted, if_neg (by rw [quiet]; decide)]

/-! ### ALERT-ACK and link loss (R140, R142) -/

section
variable {q : Request}

theorem alertAck_named (outstanding : s.alerts.state = .outstanding) (named : s.alerts.outstanding = some q.operand) :
    alertAck q s = finishHead .ok (.acknowledged q.operand)
      (settleAlerts { s with alerts := s.alerts.acknowledged }) := if_pos ⟨outstanding, named⟩

theorem alertAck_stale (stale : s.alerts.state = .quiet ∨ s.alerts.outstanding ≠ some q.operand) :
    alertAck q s = refuse .stale s := by
  refine if_neg fun both => ?_
  obtain ⟨outstanding, named⟩ := both
  obtain quiet | other := stale
  · cases quiet.symm.trans outstanding
  · exact other named

end

theorem AlertUnit.linkLoss_outstanding {a : AlertUnit} (outstanding : a.state = .outstanding) : a.linkLoss = { a with
    pending := a.pending ||| a.reported
    reported := 0
    outstanding := none
    repeatCount := 0
    timerRunning := false
    state := .quiet
    offer := .none } := by
  rw [linkLoss, outstanding]

theorem AlertUnit.linkLoss_quiet {a : AlertUnit} (quiet : a.state = .quiet) : a.linkLoss = { a with
    offer := match a.offer with
      | .newAlert _ => .newAlert .offered
      | _ => .none
    sent := 0
    reRaised := 0 } := by
  have kept : offerAfterLoss a.offer = match a.offer with
      | .newAlert _ => .newAlert .offered
      | _ => .none := by
    cases a.offer with
    | newAlert m => rfl
    | repeatAlert m => rfl
    | none => rfl
  rw [← kept, linkLoss, quiet]

end Sys2Proof.Machine

namespace Sys2Proof.Proofs.Alerts
open Sys2Proof.Machine

/-- Settles O37: the raise, the offer rule and the completions by the offer. -/
theorem raiseAndAlertCompletion : Obligations.RaiseAndAlertCompletion := by
  refine ⟨fun a => ?_, ⟨settleAlerts_eq, fun s a onTheWay => ?_⟩, fun s void rest completion idle => ?_,
    fun s rest completion => ?_⟩
  · cases a <;> rfl
  · intro one
    rw [alertRaise_next onTheWay, AlertUnit.take_eq]
  · rw [alertFrameCompletion_next completion]
    obtain isVoid | ⟨noNew, noRepeat⟩ := idle
    · rw [if_pos isVoid]
    · cases void with
      | true => rfl
      | false =>
        cases offer : s.alerts.offer with
        | none => rfl
        | newAlert m =>
          cases m with
          | offered => rfl
          | inTransmission => exact absurd offer noNew
        | repeatAlert m =>
          cases m with
          | offered => rfl
          | inTransmission => exact absurd offer noRepeat
  · intro done
    have run := alertFrameCompletion_next completion
    refine ⟨fun new => ?_, fun again outstanding => ?_, fun again quiet => ?_⟩
    · rw [new, AlertUnit.newCompleted_eq] at run
      exact run
    · rw [again, AlertUnit.repeatCompleted_outstanding (by exact outstanding)] at run
      exact run
    · rw [again, AlertUnit.repeatCompleted_quiet (by exact quiet)] at run
      exact run

/-- Settles O38: the timer, the acknowledgement and the loss, each in both alert states. -/
theorem repeatAcknowledgementAndLoss : Obligations.RepeatAcknowledgementAndLoss := by
  refine ⟨fun s => ⟨fun running => congrArg _ (if_pos running), ?_⟩, fun s rest loss => ?_⟩
  · rintro q rest ⟨idle, queued, row⟩ lossFirst
    have executed (notFirst : ¬ lossFirst) : exec .alertAck s = .next (arbitrate (alertAck q s)) :=
      congrArg _ ((if_neg (mt (lossTakenFirst_iff s).mp notFirst)).trans (execHead_run idle queued row _))
    refine ⟨fun first => congrArg _ (if_pos ((lossTakenFirst_iff s).mpr first)), fun later outstanding named => ?_,
      fun later stale => ?_⟩
    · rw [executed later, alertAck_named outstanding named, finishHead_eq_replied (by simpa using queued)]
      rfl
    · exact (executed later).trans (next_of_refuse queued (alertAck_stale stale))
  · intro lost
    have run := linkLossAlert_next loss
    refine ⟨fun outstanding => ?_, fun quiet => ?_⟩
    · rw [AlertUnit.linkLoss_outstanding (by exact outstanding)] at run
      exact run
    · rw [AlertUnit.linkLoss_quiet (by exact quiet)] at run
      exact run

end Sys2Proof.Proofs.Alerts
end

section
/-! The collector link (chapter 10): the link states, the frames received, the arbiter, and the end of a transmission. -/

namespace Sys2Proof.Machine

variable {s : State}

/-! ### The link states (R145 to R149) -/

theorem startTrain_eq (training : s.link.state = .training) (idle : s.link.tx = none) : startTrain s = { s with
    link := { s.link with tx := some { frame := .train s.link.trainRun, source := .training, void := false } } } :=
  if_pos ⟨training, idle⟩

theorem signalDetected_down (down : s.link.state = .down) (idle : s.link.tx = none) : signalDetected s = { s with
    link := { s.link with
      state := .training
      tx := some { frame := .train s.link.trainRun, source := .training, void := false } } } := by
  rw [signalDetected, down]
  exact startTrain_eq (s := s.setLink { s.link with state := .training }) rfl idle

theorem signalDetected_other (other : s.link.state ≠ .down) : signalDetected s = s := by
  unfold signalDetected
  cases state : s.link.state with
  | down => exact absurd state other
  | training => rfl
  | up => rfl

/-! ### The frames received (R148, R150, R151) -/

/-- R148, R150: a bad frame, and a request whose length is none of the seven, do this. -/
theorem badFrame_eq (s : State) : badFrame s = match s.link.state with
    | .down => s
    | .training => { s with link := { s.link with trainRun := 0 } }
    | .up => if s.link.badRun + 1 = 16 then { s with
        link := { state := .down, trainRun := 0, badRun := 0, credit := 0, tx := none }
        mgmt := { s.mgmt with inbox := s.mgmt.inbox ++ [.linkLoss] }
        delivery := { s.delivery with inbox := s.delivery.inbox ++ [.linkLoss] }
        stream := { s.stream with inbox := s.stream.inbox ++ [.linkLoss] }
        alerts := { s.alerts with
          raises := s.alerts.raises ++ [.linkProtocol], inbox := s.alerts.inbox ++ [.linkLoss] } }
      else { s with
        link := { s.link with badRun := s.link.badRun + 1 }
        alerts := { s.alerts with raises := s.alerts.raises ++ [.linkProtocol] } } := by
  unfold badFrame
  cases s.link.state with
  | down => rfl
  | training => rfl
  | up => rfl

theorem requestFrame_bad (tag : Byte) {body : List Byte} (length : body.length ∉ requestLengths) (s : State) :
    requestFrame tag body s = badFrame s := by
  rw [requestFrame, List.contains_eq_mem, decide_eq_false length]

theorem requestFrame_good {tag kind operand index options : Byte} {payload : List Byte}
    (length : payload.length + 4 ∈ requestLengths) (s : State) :
    requestFrame tag (kind :: operand :: index :: options :: payload) s = match s.link.state with
      | .down => s
      | .training => { s with link := { s.link with trainRun := 0 } }
      | .up => { s with
        link := { s.link with badRun := 0 }
        mgmt := { s.mgmt with inbox := s.mgmt.inbox ++ [.request
          { tag := tag, kind := kind, operand := operand, index := index, options := options
            payload := payload }] } } := by
  have known : requestLengths.contains (kind :: operand :: index :: options :: payload).length = true := by
    rw [List.contains_eq_mem]
    exact decide_eq_true length
  rewrite [requestFrame, known]
  cases s.link.state with
  | down => rfl
  | training => rfl
  | up => rfl

theorem grant_eq (count : Byte) (s : State) : grant count s = { s with
    link := { s.link with credit := min 255 (s.link.credit + count.toNat) }
    alerts := { s.alerts with raises := s.alerts.raises ++
      if 255 < s.link.credit + count.toNat then [.linkProtocol] else [] } } := by
  unfold grant
  dsimp only
  by_cases excess : 255 < s.link.credit + count.toNat
  · rw [if_pos excess, if_pos excess]
    rfl
  · rw [if_neg excess, if_neg excess, List.append_nil]
    rfl

theorem creditFrame_eq (count : Byte) (s : State) : creditFrame count s = match s.link.state with
    | .down => s
    | .training => { s with link := { s.link with trainRun := 0 } }
    | .up => arbitrate { s with
      link := { s.link with badRun := 0, credit := min 255 (s.link.credit + count.toNat) }
      alerts := { s.alerts with raises := s.alerts.raises ++
        if 255 < s.link.credit + count.toNat then [.linkProtocol] else [] } } := by
  unfold creditFrame
  cases s.link.state with
  | down => rfl
  | training => rfl
  | up =>
    dsimp only
    rw [grant_eq]
    rfl

/-! ### What each source offers (R152, Table 10-3) -/

theorem replyOffer_none_iff (s : State) : replyOffer s = none ↔
    s.mgmt.replies = [] ∨ LinkReport.linkLoss ∈ s.mgmt.inbox := by
  unfold replyOffer
  by_cases lost : lossWaits s.mgmt.inbox = true
  · simp [lost, (lossWaits_iff _).mp lost]
  · simp [lost, mt (lossWaits_iff _).mpr lost]

theorem replyOffer_some {r : Reply} {rest : List Reply} (waiting : s.mgmt.replies = r :: rest)
    (quiet : LinkReport.linkLoss ∉ s.mgmt.inbox) : replyOffer s = some (.reply, .reply r) := by
  rw [replyOffer, if_neg (mt (lossWaits_iff _).mp quiet), waiting]
  rfl

theorem alertOffer_none_iff (s : State) : alertOffer s = none ↔
    ¬(s.alerts.offer = .newAlert .offered ∨ s.alerts.offer = .repeatAlert .offered) := by
  unfold alertOffer
  cases s.alerts.offer with
  | none => simp
  | newAlert m => cases m <;> simp
  | repeatAlert m => cases m <;> simp

theorem alertOffer_new (new : s.alerts.offer = .newAlert .offered) : alertOffer s = some (.alert, .alert
    { sequence := s.alerts.sequence, repeatCount := 0, sources := s.alerts.pending &&& s.mgmt.control.alerts }) := by
  rw [alertOffer, new]
  rfl

theorem alertOffer_repeat {n : Byte} (again : s.alerts.offer = .repeatAlert .offered)
    (outstanding : s.alerts.outstanding = some n) : alertOffer s = some (.alert, .alert
      { sequence := n, repeatCount := s.alerts.repeatCount, sources := s.alerts.reported }) := by
  rw [alertOffer, again, outstanding]
  rfl

theorem captureOffer_none_iff (s : State) : captureOffer s = none ↔
    ¬∃ d, s.delivery.drain = some d ∧ d.mark = .offered ∧ ¬endLost d s.delivery.inbox = true := by
  unfold captureOffer
  cases s.delivery.drain with
  | none => simp
  | some d => simp

theorem captureOffer_some {d : Drain} (drain : s.delivery.drain = some d) (offered : d.mark = .offered)
    (stands : ¬endLost d s.delivery.inbox = true) : captureOffer s = some (.delivery, .capture d.frame) := by
  rw [captureOffer, drain]
  exact if_pos ⟨offered, Bool.eq_false_iff.mpr stands⟩

theorem streamOffer_none_iff (s : State) : streamOffer s = none ↔
    ¬(LinkReport.linkLoss ∉ s.stream.inbox ∧ s.stream.queue ≠ [] ∧ s.stream.headMark = .offered) := by
  unfold streamOffer
  by_cases lost : lossWaits s.stream.inbox = true
  · simp [lost, (lossWaits_iff _).mp lost]
  · by_cases offered : s.stream.headMark = .offered
    · simp [lost, mt (lossWaits_iff _).mpr lost, offered]
    · simp [lost, offered]

theorem streamOffer_some {f : StreamFrame} {rest : List StreamFrame} (quiet : LinkReport.linkLoss ∉ s.stream.inbox)
    (waiting : s.stream.queue = f :: rest) (offered : s.stream.headMark = .offered) :
    streamOffer s = some (.stream, .stream f) := by
  rw [streamOffer, if_neg (mt (lossWaits_iff _).mp quiet), if_pos offered, waiting]
  rfl

/-! Table 10-3: the frame of the first source that offers one is ready. -/

section
variable {f : Source × UpFrame}

theorem readyFrame_reply (reply : replyOffer s = some f) : readyFrame s = some f := by
  rw [readyFrame, reply]

theorem readyFrame_alert (noReply : replyOffer s = none) (alert : alertOffer s = some f) : readyFrame s = some f := by
  rw [readyFrame, noReply, alert]

theorem readyFrame_capture (noReply : replyOffer s = none) (noAlert : alertOffer s = none)
    (capture : captureOffer s = some f) : readyFrame s = some f := by
  rw [readyFrame, noReply, noAlert, capture]

theorem readyFrame_stream (noReply : replyOffer s = none) (noAlert : alertOffer s = none)
    (noCapture : captureOffer s = none) : readyFrame s = streamOffer s := by
  rw [readyFrame, noReply, noAlert, noCapture]

end

/-! ### The end of a transmission (R147, R153, R154) -/

theorem report_eq (src : Source) (r : LinkReport) (s : State) : report src r s = match src with
    | .training => s
    | .reply => { s with mgmt := { s.mgmt with inbox := s.mgmt.inbox ++ [r] } }
    | .alert => { s with alerts := { s.alerts with inbox := s.alerts.inbox ++ [r] } }
    | .delivery => { s with delivery := { s.delivery with inbox := s.delivery.inbox ++ [r] } }
    | .stream => { s with stream := { s.stream with inbox := s.stream.inbox ++ [r] } } := by
  cases src with
  | training => rfl
  | reply => rfl
  | alert => rfl
  | delivery => rfl
  | stream => rfl

/-- R153: the capture or stream source, with nothing reported before, takes the completion just reported. -/
theorem completeFirst_report (src : Source) (r : LinkReport) (s : State) : completeFirst src (report src r s) =
    if src = .delivery ∧ s.delivery.inbox = [] then takeCaptureCompletion (report src r s)
    else if src = .stream ∧ s.stream.inbox = [] then takeStreamCompletion (report src r s)
    else report src r s := by
  cases src with
  | training => rfl
  | reply => rfl
  | alert => rfl
  | delivery => simp [completeFirst, report]
  | stream => simp [completeFirst, report]

theorem transmissionCompletion_eq {t : Transmission} (sending : s.link.tx = some t) (sourceFirst : Bool) :
    transmissionCompletion sourceFirst s =
      nextFrame (if sourceFirst then
          completeFirst t.source (report t.source (.completion t.void) { s with link := { s.link with tx := none } })
        else report t.source (.completion t.void) { s with link := { s.link with tx := none } }) := by
  rewrite [transmissionCompletion, sending]
  rfl

/-- R147, R152: with the transmitter IDLE, a TRAIN frame starts in TRAINING, and the ready frame in UP. -/
theorem nextFrame_eq (idle : s.link.tx = none) : nextFrame s = match s.link.state with
    | .down => s
    | .training => { s with link := { s.link with
        tx := some { frame := .train s.link.trainRun, source := .training, void := false } } }
    | .up => arbitrate s := by
  unfold nextFrame
  cases state : s.link.state with
  | down => rfl
  | training => exact startTrain_eq state idle
  | up => rfl

end Sys2Proof.Machine

namespace Sys2Proof.Proofs.Link
open Sys2Proof.Machine

/-- Settles O39: each event by the link state. -/
theorem linkStateChanges : Obligations.LinkStateChanges := by
  intro s down put
  refine ⟨fun isDown idle => congrArg _ (signalDetected_down isDown idle),
    fun other => congrArg _ (signalDetected_other other), congrArg Host.Outcome.next ?_, congrArg Host.Outcome.next ?_⟩
  · unfold linkLossOfSignal
    cases s.link.state with
    | down => rfl
    | training => rfl
    | up => rfl
  · unfold trainFrame
    cases s.link.state with
    | down => rfl
    | training => rfl
    | up => rfl

/-- Settles O40: each frame by the link state. -/
theorem receivedFrames : Obligations.ReceivedFrames := by
  intro s put raises bad
  have isBad : badFrame s = bad := badFrame_eq s
  refine ⟨congrArg Host.Outcome.next isBad,
    fun tag body length => congrArg Host.Outcome.next ((requestFrame_bad tag length s).trans isBad),
    fun tag kind operand index options payload => ?_, fun count => congrArg Host.Outcome.next (creditFrame_eq count s)⟩
  intro r length
  exact congrArg Host.Outcome.next (requestFrame_good length s)

/-- Settles O41: the sources in the order of their priority. -/
theorem arbiterStartsByPriority : Obligations.ArbiterStartsByPriority := by
  intro s free alertOffered endLost captureOffered streamOffered busy noReply
  have noCapture_iff : captureOffer s = none ↔ ¬captureOffered := by
    simp only [captureOffer_none_iff, endLost_iff]
    rfl
  refine ⟨fun nothing => ?_, fun isFree => ?_⟩
  · obtain notFree | ⟨noReply, noAlert, noCapture, noStream⟩ := nothing
    · exact arbitrate_wait (Bool.eq_false_iff.mpr (mt (canStart_iff s).mp notFree))
    · refine arbitrate_idle ?_
      rw [readyFrame_stream ((replyOffer_none_iff s).mpr noReply) ((alertOffer_none_iff s).mpr noAlert)
        (noCapture_iff.mpr noCapture)]
      exact (streamOffer_none_iff s).mpr noStream
  · have may := (canStart_iff s).mpr isFree
    refine ⟨fun r rest waiting quiet => ?_, fun noReply new => ?_, fun n noReply again outstanding => ?_,
      fun d noReply noAlert drain offered stands => ?_,
      fun f rest noReply noAlert noCapture quiet waiting offered => ?_⟩
    · rw [arbitrate_start may (readyFrame_reply (replyOffer_some waiting quiet)), started, markStarted, waiting]
      rfl
    · intro sources
      rw [arbitrate_start may (readyFrame_alert ((replyOffer_none_iff s).mpr noReply) (alertOffer_new new)), started,
        markStarted, new]
      rfl
    · rw [arbitrate_start may (readyFrame_alert ((replyOffer_none_iff s).mpr noReply)
        (alertOffer_repeat again outstanding)),
        started, markStarted, again]
      rfl
    · rw [arbitrate_start may (readyFrame_capture ((replyOffer_none_iff s).mpr noReply)
        ((alertOffer_none_iff s).mpr noAlert) (captureOffer_some drain offered (mt (endLost_iff d _).mp stands))),
        started, markStarted, drain]
      rfl
    · rw [arbitrate_start may ((readyFrame_stream ((replyOffer_none_iff s).mpr noReply)
        ((alertOffer_none_iff s).mpr noAlert) (noCapture_iff.mpr noCapture)).trans
          (streamOffer_some quiet waiting offered)), started, markStarted]
      rfl

/-- Settles O42: the completion handed over, and the next start by the link state. -/
theorem transmissionEnds : Obligations.TransmissionEnds := by
  refine ⟨fun s void rest => ⟨fun completion => ?_, fun completion => ?_⟩, fun s t sending => ?_⟩
  · show Host.Outcome.next (captureFrameCompletion s) = _
    rw [captureFrameCompletion, completion]
  · show Host.Outcome.next (streamFrameCompletion s) = _
    rw [streamFrameCompletion, completion]
  · intro idle r told next
    have isTold : report t.source r idle = told := report_eq t.source r idle
    have goes {u : State} (same : u.link = idle.link) : nextFrame u = next u := by
      obtain ⟨timer, lanes, channels, conditions, capture, delivery, stream, alerts, link, mgmt, pending⟩ := u
      cases same
      exact nextFrame_eq rfl
    have told_link : told.link = idle.link := by rw [← isTold]; simp
    refine ⟨congrArg Host.Outcome.next ?_, congrArg Host.Outcome.next ?_⟩
    · rw [transmissionCompletion_eq sending false]
      exact (congrArg nextFrame isTold).trans (goes told_link)
    · have first : completeFirst t.source told = if t.source = .delivery ∧ s.delivery.inbox = [] then
            takeCaptureCompletion told
          else if t.source = .stream ∧ s.stream.inbox = [] then takeStreamCompletion told
          else told := by
        rw [← isTold]
        exact completeFirst_report t.source r idle
      rw [transmissionCompletion_eq sending true, ← first]
      refine (congrArg (fun u => nextFrame (completeFirst t.source u)) isTold).trans (goes ?_)
      rw [← told_link]
      simp

end Sys2Proof.Proofs.Link
end

section
/-! Management requests (chapter 11): the Management Engine's reports, RESET and the soft resets, and the replies in
bytes. -/

namespace Sys2Proof.Machine

variable {s : State} {rest : List LinkReport}

/-! ### The reports of the Management Engine (R158, R162, R170) -/

theorem requestArrival_next {r : Request} (arrival : s.mgmt.inbox = .request r :: rest) :
    exec .requestArrival s = .next (if s.mgmt.unanswered < 8 then
        { s with mgmt := { s.mgmt with
          inbox := rest, requests := s.mgmt.requests ++ [r], unanswered := s.mgmt.unanswered + 1 } }
      else { s with
        mgmt := { s.mgmt with inbox := rest }
        alerts := { s.alerts with raises := s.alerts.raises ++ [.linkProtocol] } }) := by
  show Host.Outcome.next (requestArrival s) = _
  rewrite [requestArrival, arrival]
  rfl

/-- R162: the oldest reply in transmission is done. -/
theorem replyCompletion_done {r : Reply} {later : List Reply} (completion : s.mgmt.inbox = .completion false :: rest)
    (sent : s.mgmt.inTransmission = r :: later) : exec .replyCompletion s = .next { s with mgmt := { s.mgmt with
      inbox := rest, inTransmission := later, unanswered := s.mgmt.unanswered - 1 } } := by
  show Host.Outcome.next (replyCompletion s) = _
  rewrite [replyCompletion, completion]
  dsimp only
  rewrite [sent]
  rfl

theorem replyCompletion_void {void : Bool} (completion : s.mgmt.inbox = .completion void :: rest)
    (none : void = true ∨ s.mgmt.inTransmission = []) :
    exec .replyCompletion s = .next { s with mgmt := { s.mgmt with inbox := rest } } := by
  show Host.Outcome.next (replyCompletion s) = _
  rewrite [replyCompletion, completion]
  dsimp only
  obtain isVoid | idle := none
  · rewrite [isVoid]
    rfl
  · rewrite [idle]
    cases void with
    | false => rfl
    | true => rfl

theorem linkLossManagement_next (loss : s.mgmt.inbox = .linkLoss :: rest) : exec .linkLossManagement s = .next { s with
    link := s.link.giveUp .reply
    mgmt := { s.mgmt with
      inbox := rest.map LinkReport.voided
      requests := []
      exec := .idle
      replies := []
      inTransmission := []
      deferred := none
      unanswered := 0 } } := by
  show Host.Outcome.next (linkLossManagement s) = _
  rewrite [linkLossManagement, loss]
  rfl

/-! ### RESET and its end (R168, R169) -/

theorem resetRequest_eq (q : Request) (s : State) : resetRequest q s = { s with
    link := s.link.giveUp .reply
    mgmt := { s.mgmt with
      inbox := s.mgmt.inbox.map LinkReport.voided
      requests := [q]
      exec := .awaitReset (s.mgmt.unanswered - 1)
      replies := []
      inTransmission := []
      deferred := none
      unanswered := 1
      resetsIssued := s.mgmt.resetsIssued + 1 } } := rfl

theorem allResetsTaken_iff (s : State) : allResetsTaken s = true ↔
    ∀ n ∈ [s.timer.resetsTaken, s.channels.resetsTaken, s.conditions.resetsTaken, s.capture.resetsTaken,
      s.delivery.resetsTaken, s.stream.resetsTaken, s.alerts.resetsTaken], n = s.mgmt.resetsIssued := by
  simp only [allResetsTaken, Bool.and_eq_true, beq_iff_eq, List.forall_mem_cons, List.not_mem_nil, false_imp_iff,
    implies_true, and_true, and_assoc]

theorem softResetDone_next {n : Nat} (awaits : s.mgmt.exec = .awaitReset n) : exec .softResetDone s = .next
    (if allResetsTaken s then arbitrate (finishHead .ok (.voids n) s) else s) := by
  show Host.Outcome.next (softResetDone s) = _
  rw [softResetDone, awaits]

/-! ### The soft reset at each block (R18, R35, R71, R96, R113, R122, R132, R143) -/

/-- A block that has not taken the reset takes it. -/
theorem takeReset_next {taken : Nat} (act : State → State) (issued : taken < s.mgmt.resetsIssued) :
    takeReset taken act s = act s := if_pos issued

theorem dropDeferred_eq (s : State) : dropDeferred s = { s with mgmt := { s.mgmt with
    deferred := none
    unanswered := s.mgmt.unanswered - if s.mgmt.deferred = none then 0 else 1 } } := by
  unfold dropDeferred
  cases deferred : s.mgmt.deferred with
  | none =>
    show s = _
    rw [if_pos rfl, Nat.sub_zero, ← deferred]
  | some tag => rfl

/-- R132, R124: the timer cancels a pending commit when the Condition Engine is past this reset (log entry 16). -/
theorem resetTimer_eq (s : State) : resetTimer s = { s with
    timer := { state := .stopped, nextEpoch := 0, openEpoch := none, participating := 0, lastClosed := none
               periodTimer := none, strobe := s.timer.strobe, resetsTaken := s.timer.resetsTaken + 1 }
    lanes := Vector.ofFn fun l => { s.lanes[l] with received := 0, wordsTaken := 0, lateWords := 0 }
    channels := { s.channels with openValues := Vector.replicate 16 none }
    conditions := if s.timer.resetsTaken < s.conditions.resetsTaken then { s.conditions with commit := .none }
      else s.conditions
    mgmt := if s.timer.resetsTaken < s.conditions.resetsTaken then { s.mgmt with
        deferred := none
        unanswered := s.mgmt.unanswered - if s.mgmt.deferred = none then 0 else 1 }
      else s.mgmt } := by
  unfold resetTimer
  dsimp only
  by_cases past : s.timer.resetsTaken < s.conditions.resetsTaken
  · rw [if_pos past, if_pos past, if_pos past, cancelCommit, dropDeferred_eq]
    rfl
  · rw [if_neg past, if_neg past, if_neg past]
    rfl

/-! ### The row of a request (R159, R172) -/

/-- The code of a table names that table and no other. -/
theorem tableOf_eq_some_iff (b : Byte) (t : TableName) : tableOf b = some t ↔ b = t.code := by
  revert b
  cases t <;> decide

/-! ### Bytes sent (R171, R173) -/

theorem bytes16_toNat (x : BitVec 16) : (bytes16 x).map BitVec.toNat = [x.toNat / 256 % 256, x.toNat % 256] := by
  simp [bytes16, BitVec.extractLsb'_toNat, Nat.shiftRight_eq_div_pow]

theorem bytes32_toNat (x : BitVec 32) : (bytes32 x).map BitVec.toNat =
    [x.toNat / 65536 / 256 % 256, x.toNat / 65536 % 256, x.toNat / 256 % 256, x.toNat % 256] := by
  simp [bytes32, BitVec.extractLsb'_toNat, Nat.shiftRight_eq_div_pow, Nat.div_div_eq_div_mul]

theorem byteOf_toNat (n : Nat) : (byteOf n).toNat = n % 256 := BitVec.toNat_ofNat n 8

theorem byteOf_fin_toNat {n : Nat} (small : n ≤ 256) (u : Fin n) : (byteOf u.val).toNat = u.val := by
  rw [byteOf_toNat, Nat.mod_eq_of_lt (u.isLt.trans_le small)]

/-- The flags byte of a STATUS reply (Table 12-6). -/
theorem flags_toNat (a b : Bool) :
    (flag 0 a ||| flag 1 b).toNat = (if a then 1 else 0) + 2 * if b then 1 else 0 := by
  cases a <;> cases b <;> rfl

/-- Table 12-6: the first four places of the drain queue, with 0 in those it leaves free. -/
theorem drainQueue_bytes (queue : List (Fin 4)) :
    (((queue.map fun u => byteOf u.val) ++ List.replicate 4 (0 : Byte)).take 4).map BitVec.toNat =
      ((queue.map fun u : Fin 4 => u.val) ++ [0, 0, 0, 0]).take 4 := by
  rw [List.map_take, List.map_append, List.map_map]
  have units : (BitVec.toNat ∘ fun u : Fin 4 => byteOf u.val) = fun u => u.val :=
    funext fun u => byteOf_fin_toNat (by decide) u
  rw [units]
  rfl

end Sys2Proof.Machine

namespace Sys2Proof.Proofs.Management
open Sys2Proof.Machine

/-- Settles O43: each report by its kind. -/
theorem managementReports : Obligations.ManagementReports := by
  refine ⟨⟨rfl, fun void => rfl, fun r => rfl⟩, fun s rest => ?_⟩
  refine ⟨fun r arrival => ⟨fun room => ?_, fun full => ?_⟩, fun r later => replyCompletion_done,
    fun void => replyCompletion_void, linkLossManagement_next⟩
  · rw [requestArrival_next arrival, if_pos room]
  · rw [requestArrival_next arrival, if_neg (Nat.not_lt.mpr full)]

/-- Settles O44: the row by the kind and the table, and the content by its kind. -/
theorem statusAndUnknownKind : Obligations.StatusAndUnknownKind := by
  unfold Obligations.StatusAndUnknownKind
  intro two four yes table answer unit
  refine ⟨fun q => ?_, fun c => ?_, fun s q rest => ⟨?_, ?_⟩⟩
  · have kind_iff (k : Byte) : q.kind = k ↔ q.kind.toNat = k.toNat := BitVec.toNat_inj.symm
    have operand_iff (t : TableName) : q.operand = t.code ↔ q.table = some t := (tableOf_eq_some_iff q.operand t).symm
    have control : q.operand = 0x00#8 ↔ q.table = some .control := operand_iff .control
    have channel : q.operand = 0x01#8 ↔ q.table = some .channel := operand_iff .channel
    have runtime : q.operand = 0x02#8 ↔ q.table = some .channelRuntime := operand_iff .channelRuntime
    have level : q.operand = 0x03#8 ↔ q.table = some .level := operand_iff .level
    have condition : q.operand = 0x04#8 ↔ q.table = some .condition := operand_iff .condition
    have trigger : q.operand = 0x05#8 ↔ q.table = some .trigger := operand_iff .trigger
    have unit : q.operand = 0x07#8 ↔ q.table = some .unit := operand_iff .unit
    simp only [kind_iff, List.mem_cons, List.not_mem_nil, or_false, ne_eq, control, channel, runtime, level, condition,
      trigger, unit, Request.row]
    have bounded := q.kind.isLt
    generalize q.kind.toNat = k at bounded ⊢
    generalize q.table = t
    match k with
    | 0 => simp
    | 1 => cases t with
      | none => simp
      | some t => cases t <;> simp
    | 2 => cases t with
      | none => simp
      | some t => cases t <;> simp
    | 3 | 4 | 5 | 6 | 7 | 8 | 9 | 10 | 11 | 12 | 13 | 14 => simp
    | k + 15 => simp
  · have table_eq (t : TableName) : t.code.toNat = table t := by cases t <;> rfl
    have answer_eq (a : Option Answer) : (answerCode a).toNat = answer a := by
      cases a with
      | none => rfl
      | some a => cases a <;> rfl
    have unit_eq (u : UnitState) : u.code.toNat = unit u := by cases u <;> rfl
    have two_eq (x : BitVec 16) : (bytes16 x).map BitVec.toNat = two x.toNat := bytes16_toNat x
    have four_eq (x : BitVec 32) : (bytes32 x).map BitVec.toNat = four x.toNat := bytes32_toNat x
    cases c with
    | nothing => rfl
    | read t i b e => cases b <;> simp [ReplyContent.bytes, table_eq, BankName.code]
    | wrote t i => simp [ReplyContent.bytes, table_eq]
    | commit g e => simp only [ReplyContent.bytes, List.map_append, two_eq, four_eq]
    | generation g => exact two_eq g
    | unit u => simp [ReplyContent.bytes, byteOf_toNat, Nat.mod_eq_of_lt (u.isLt.trans (by decide : 4 < 256))]
    | fire t a e =>
      simp only [ReplyContent.bytes, List.map_append, List.map_cons, List.map_nil, four_eq, answer_eq,
        byteOf_fin_toNat (by decide : 8 ≤ 256)]
    | acknowledged n => rfl
    | voids n => simp [ReplyContent.bytes, byteOf_toNat]
    | status t =>
      have timer_eq (x : TimerState) : x.code.toNat = match x with | .stopped => 0 | .running => 1 := by
        cases x <;> rfl
      have commit_eq (x : CommitState) : x.code.toNat = match x with | .none => 0 | .pending => 1 := by
        cases x <;> rfl
      have alert_eq (x : AlertState) : x.code.toNat = match x with | .quiet => 0 | .outstanding => 1 := by
        cases x <;> rfl
      simp only [ReplyContent.bytes, StatusSummary.bytes, List.map_append, List.map_cons, List.map_nil, flags_toNat,
        optional32, four_eq, two_eq, drainQueue_bytes, unit_eq, byteOf_toNat, timer_eq, commit_eq, alert_eq]
      rfl
  · rintro ⟨idle, queued, row⟩
    rw [exec_status, execHead_run idle queued row, status, finishHead_eq_replied queued]
    rfl
  · rintro ⟨idle, queued, row⟩
    rw [exec_unknownKind, execHead_run idle queued row, unknownKind, refuse_eq_replied queued]

/-- Settles O45: the hand-over, and the end by who has taken the reset. -/
theorem resetRequest : Obligations.ResetRequest := by
  intro s q rest taken
  refine ⟨?_, fun n awaits queued => ?_⟩
  · rintro ⟨idle, queued, row⟩
    rw [exec_reset, execHead_run idle queued row, resetRequest_eq]
    rfl
  · rw [softResetDone_next awaits]
    refine ⟨fun all => ?_, fun notAll => ?_⟩
    · rw [if_pos ((allResetsTaken_iff s).mpr all), finishHead_eq_replied queued]
    · rw [if_neg (mt (allResetsTaken_iff s).mp notAll)]

/-- Settles O46: block by block. -/
theorem softResetOfEachBlock : Obligations.SoftResetOfEachBlock := by
  intro s issued keep link runtime unit dropped
  refine ⟨fun first => congrArg Host.Outcome.next ((takeReset_next _ first).trans ?_),
    fun first => congrArg Host.Outcome.next (takeReset_next _ first),
    fun first => congrArg Host.Outcome.next ((takeReset_next _ first).trans ?_),
    fun first => congrArg Host.Outcome.next (takeReset_next _ first),
    fun first => congrArg Host.Outcome.next (takeReset_next _ first),
    fun first => congrArg Host.Outcome.next (takeReset_next _ first),
    fun first => congrArg Host.Outcome.next (takeReset_next _ first)⟩
  · exact resetTimer_eq s
  · rw [resetConditions, dropDeferred_eq]
    rfl

end Sys2Proof.Proofs.Management
end

section
/-! Lane symbols and frames in bytes (sections 12.1 to 12.3 and 12.6): the cyclic checks, the frames received and the
frames sent. -/

namespace Sys2Proof.Machine

/-! ### The cyclic checks (R171, R177) -/

theorem crc8Bit_eq (c : BitVec 8) (bit : Bool) :
    crc8Bit c bit = if c.getLsbD 7 = bit then c <<< 1 else (c <<< 1) ^^^ 0x07#8 := by
  rw [crc8Bit, BitVec.msb_eq_getLsbD_last]
  cases c.getLsbD (8 - 1) <;> cases bit <;> rfl

theorem crc16Bit_eq (c : BitVec 16) (bit : Bool) :
    crc16Bit c bit = if c.getLsbD 15 = bit then c <<< 1 else (c <<< 1) ^^^ 0x1021#16 := by
  rw [crc16Bit, BitVec.msb_eq_getLsbD_last]
  cases c.getLsbD (16 - 1) <;> cases bit <;> rfl

/-- A division step on the remainder's own top bit only shifts. -/
theorem crc8Bit_msb (c : BitVec 8) : crc8Bit c c.msb = c <<< 1 := by
  rw [crc8Bit, Bool.xor_self]
  rfl

theorem crc16Bit_msb (c : BitVec 16) : crc16Bit c c.msb = c <<< 1 := by
  rw [crc16Bit, Bool.xor_self]
  rfl

/-- A remainder divided on by its own bits, the top one first, is shifted out bit by bit. -/
theorem foldl_ownBits {w : Nat} {step : BitVec w → Bool → BitVec w} (own : ∀ c, step c c.msb = c <<< 1)
    (c : BitVec w) (n : Nat) (most : n ≤ w) :
    ((List.range n).map fun k => c.getLsbD (w - 1 - k)).foldl step c = c <<< n := by
  induction n with
  | zero => exact (BitVec.shiftLeft_zero c).symm
  | succ n ih =>
    have top : c.getLsbD (w - 1 - n) = (c <<< n).msb := by
      rw [BitVec.msb_eq_getLsbD_last, BitVec.getLsbD_shiftLeft]
      simp
      omega
    rw [List.range_succ, List.map_append, List.foldl_append, ih (by omega), List.map_singleton, List.foldl_cons,
      List.foldl_nil, top, own, ← BitVec.shiftLeft_add]

theorem laneCheck_append (bytes : List Byte) (b : Byte) :
    laneCheck (bytes ++ [b]) = (bitsOf b).foldl crc8Bit (laneCheck bytes) := by
  rw [laneCheck, List.foldl_append]
  rfl

/-- Bytes followed by their check divide without remainder. -/
theorem laneCheck_self (bytes : List Byte) : laneCheck (bytes ++ [laneCheck bytes]) = 0 := by
  rw [laneCheck_append]
  exact (foldl_ownBits crc8Bit_msb (laneCheck bytes) 8 le_rfl).trans (BitVec.shiftLeft_eq_zero le_rfl)

theorem frameCheck_append (bytes : List Byte) (b : Byte) :
    frameCheck (bytes ++ [b]) = (bitsOf b).foldl crc16Bit (frameCheck bytes) := by
  rw [frameCheck, List.foldl_append]
  rfl

theorem bitsOf_bytes16 (x : BitVec 16) : bitsOf (x.extractLsb' 8 8) ++ bitsOf (x.extractLsb' 0 8) =
    (List.range 16).map fun k => x.getLsbD (16 - 1 - k) := by
  simp [bitsOf, List.range_succ]

theorem frameCheck_self (bytes : List Byte) : frameCheck (bytes ++ bytes16 (frameCheck bytes)) = 0 := by
  have parts : bytes ++ bytes16 (frameCheck bytes) =
      (bytes ++ [(frameCheck bytes).extractLsb' 8 8]) ++ [(frameCheck bytes).extractLsb' 0 8] := by
    rw [List.append_assoc]
    rfl
  rw [parts, frameCheck_append, frameCheck_append, ← List.foldl_append, bitsOf_bytes16]
  exact (foldl_ownBits crc16Bit_msb (frameCheck bytes) 16 le_rfl).trans (BitVec.shiftLeft_eq_zero le_rfl)

/-! ### Lane words sent (R176) -/

/-- The first byte of a lane word: type bit 0, the tag, the slot. -/
def laneHead (tag : BitVec 4) (slot : Fin 8) : Byte := (0#1 ++ tag) ++ (BitVec.ofFin slot : BitVec 3)

theorem toNat_laneHead (tag : BitVec 4) (slot : Fin 8) : (laneHead tag slot).toNat = 8 * tag.toNat + slot.val := by
  rw [laneHead, BitVec.toNat_append, BitVec.toNat_append, ← Nat.shiftLeft_add_eq_or_of_lt (BitVec.isLt _),
    ← Nat.shiftLeft_add_eq_or_of_lt (BitVec.isLt _), Nat.shiftLeft_eq, Nat.shiftLeft_eq]
  simp only [BitVec.toNat_ofNat, BitVec.toNat_ofFin]
  omega

theorem word16_bytes (x : BitVec 16) : word16 (x.extractLsb' 8 8) (x.extractLsb' 0 8) = x := by
  refine BitVec.eq_of_toNat_eq ?_
  rw [toNat_word16, BitVec.extractLsb'_toNat, BitVec.extractLsb'_toNat, Nat.shiftRight_eq_div_pow,
    Nat.shiftRight_eq_div_pow]
  have := x.isLt
  omega

theorem laneSymbol_laneWordBytes (l : Fin 4) (tag : BitVec 4) (slot : Fin 8) (raw : BitVec 16) :
    laneSymbol l (laneHead tag slot) (raw.extractLsb' 8 8) (raw.extractLsb' 0 8)
      (laneCheck [laneHead tag slot, raw.extractLsb' 8 8, raw.extractLsb' 0 8]) = .laneWord l tag slot raw := by
  have head := toNat_laneHead tag slot
  have tagBound := tag.isLt
  have small : (laneHead tag slot).toNat < 128 := by omega
  have typeBit : (laneHead tag slot).msb = false := BitVec.msb_eq_false_iff_two_mul_lt.mpr (by omega)
  have tag_eq : (laneHead tag slot).extractLsb' 3 4 = tag :=
    BitVec.eq_of_toNat_eq (by rw [toNat_laneTag _ small]; omega)
  have slot_eq : ((laneHead tag slot).extractLsb' 0 3).toFin = slot := Fin.ext (by rw [val_laneSlot]; omega)
  rw [laneSymbol_of_word rfl typeBit, tag_eq, slot_eq, word16_bytes]

/-! ### Frames received (R150, R171) -/

theorem countBytes_toNat (n : Nat) : (countBytes n).map BitVec.toNat = [n / 256 % 256, n % 256] := by
  rw [countBytes, bytes16_toNat, BitVec.toNat_ofNat]
  congr 1
  · omega
  · congr 1
    omega

section
variable {kind tag l1 l0 : Byte}

/-- A frame whose length field agrees with the bytes received, by its check, its kind and its length. -/
theorem downstreamFrame_framed {body : List Byte} (length : (word16 l1 l0).toNat = body.length) (c1 c0 : Byte) :
    downstreamFrame (kind :: tag :: l1 :: l0 :: (body ++ [c1, c0])) =
      if bytes16 (frameCheck (kind :: tag :: l1 :: l0 :: body)) = [c1, c0] then
        if kind = 0x01#8 ∧ body.length = 4 then .trainFrame
        else if kind = 0x02#8 ∧ requestLengths.contains body.length then .requestFrame tag body
        else if kind = 0x03#8 ∧ body.length = 2 then .creditFrame (body.headD 0)
        else .badFrame
      else .badFrame := by
  unfold downstreamFrame
  dsimp only
  rw [length, List.take_left, List.drop_left]
  have total : (body ++ [c1, c0]).length = body.length + 2 := List.length_append
  simp only [total, true_and]

theorem downstreamFrame_mismatch {rest : List Byte} (mismatch : rest.length ≠ (word16 l1 l0).toNat + 2) :
    downstreamFrame (kind :: tag :: l1 :: l0 :: rest) = .badFrame :=
  if_neg fun both => mismatch both.1

end

/-- A frame needs a header of four bytes and a check of two. -/
theorem downstreamFrame_short {bytes : List Byte} (short : bytes.length < 6) : downstreamFrame bytes = .badFrame := by
  match bytes with
  | [] | [_] | [_, _] | [_, _, _] => rfl
  | kind :: tag :: l1 :: l0 :: rest =>
    refine downstreamFrame_mismatch ?_
    simp only [List.length_cons] at short
    omega

/-! ### Frames sent (R171, R173, R174, Tables 12-1 and 12-2) -/

theorem map_ofNat_toNat (bytes : List Byte) : (bytes.map BitVec.toNat).map (BitVec.ofNat 8) = bytes := by
  rw [List.map_map]
  exact (List.map_congr_left fun b _ => BitVec.ofNat_toNat 8 b |>.trans (BitVec.setWidth_eq b)).trans (List.map_id _)

/-- Table 12-1: header, body and check of a frame of these parts, as numbers. -/
theorem bytes_toNat_of_parts {f : UpFrame} {kind byte1 : Byte} {body : List Byte}
    (parts : f.parts = (kind, byte1, body)) : f.bytes.map BitVec.toNat =
      ([kind.toNat, byte1.toNat] ++ [body.length / 256 % 256, body.length % 256] ++ body.map BitVec.toNat) ++
        [(frameCheck (([kind.toNat, byte1.toNat] ++ [body.length / 256 % 256, body.length % 256] ++
            body.map BitVec.toNat).map (BitVec.ofNat 8))).toNat / 256 % 256,
          (frameCheck (([kind.toNat, byte1.toNat] ++ [body.length / 256 % 256, body.length % 256] ++
            body.map BitVec.toNat).map (BitVec.ofNat 8))).toNat % 256] := by
  have checked : [kind.toNat, byte1.toNat] ++ [body.length / 256 % 256, body.length % 256] ++ body.map BitVec.toNat =
      ([kind, byte1] ++ countBytes body.length ++ body).map BitVec.toNat := by
    rw [List.map_append, List.map_append, countBytes_toNat]
    rfl
  rw [checked, map_ofNat_toNat, UpFrame.bytes, parts, List.map_append, bytes16_toNat]

/-- The presence flags of a list of values name the channels with a value (R174). -/
theorem presence_eq (values : List (Fin 16 × Option Value)) (c : Fin 16) :
    (values.any fun v => v.1 = c && v.2.isSome) = values.any fun v => v.1 = c ∧ v.2 ≠ none := by
  have test : (fun v : Fin 16 × Option Value => decide (v.1 = c) && v.2.isSome) =
      fun v => decide (v.1 = c ∧ v.2 ≠ none) := by
    funext v
    rw [Bool.eq_iff_iff, Bool.and_eq_true, decide_eq_true_iff, decide_eq_true_iff, Option.isSome_iff_ne_none]
  rw [test]

theorem flag_zero_toNat (b : Bool) : (flag 0 b).toNat = if b then 1 else 0 := by
  cases b <;> rfl

end Sys2Proof.Machine

namespace Sys2Proof.Proofs.Frames
open Sys2Proof.Machine

/-- Settles O48: the division step by step, and the fields of the word read back. -/
theorem laneWordRoundTrip : Obligations.LaneWordRoundTrip := by
  unfold Obligations.LaneWordRoundTrip
  intro step
  have step_eq : crc8Bit = step := funext fun c => funext fun bit => crc8Bit_eq c bit
  refine ⟨⟨rfl, fun bytes b => ?_⟩, laneCheck_self, fun l tag slot raw =>
    ⟨_, _, _, _, rfl, laneSymbol_laneWordBytes l tag slot raw⟩⟩
  rw [laneCheck_append, step_eq]
  rfl

/-- Settles O49: the division, the frames received by their length and check, and the frames sent by their parts. -/
theorem requestFrameRoundTrip : Obligations.RequestFrameRoundTrip := by
  unfold Obligations.RequestFrameRoundTrip
  intro step two four status set valued values slot sent
  have step_eq : crc16Bit = step := funext fun c => funext fun bit => crc16Bit_eq c bit
  have sends {f : UpFrame} {kind byte1 : Byte} {body : List Byte} {numbers : List Nat}
      (parts : f.parts = (kind, byte1, body)) (same : body.map BitVec.toNat = numbers) :
      sent f kind.toNat byte1.toNat numbers := by
    subst same
    have length : (body.map BitVec.toNat).length = body.length := List.length_map _
    show f.bytes.map BitVec.toNat = _
    rw [bytes_toNat_of_parts parts, length]
  have two_eq (x : BitVec 16) : (bytes16 x).map BitVec.toNat = two x.toNat := bytes16_toNat x
  have four_eq (x : BitVec 32) : (bytes32 x).map BitVec.toNat = four x.toNat := bytes32_toNat x
  have count_eq (n : Nat) : (countBytes n).map BitVec.toNat = two n := countBytes_toNat n
  have values_eq (v : List (Fin 16 × Option Value)) :
      (v.flatMap fun x => optional16 x.2).map BitVec.toNat = values v := by
    rw [List.map_flatMap]
    exact congrArg (v.flatMap ·) (funext fun x => two_eq _)
  have present_eq (v : List (Fin 16 × Option Value)) :
      two (BitVec.ofFnLE fun c => v.any fun x => x.1 = c && x.2.isSome).toNat = set (valued v) := by
    rewrite [funext (presence_eq v)]
    rfl
  have slot_eq (t : Slot) : t.bytes.map BitVec.toNat = slot t := by
    simp only [Slot.bytes, List.map_append, List.map_cons, List.map_nil, four_eq, two_eq, flag_zero_toNat, present_eq,
      values_eq]
    rfl
  refine ⟨⟨rfl, fun bytes b => ?_⟩, frameCheck_self, fun kind tag body c1 c0 small => ?_,
    fun kind tag l1 l0 rest mismatch => downstreamFrame_mismatch (by rwa [toNat_word16]),
    fun bytes => downstreamFrame_short, fun run => ?_, fun r => ?_, fun a => ?_, fun r attempt mode => ?_,
    fun number u index slots => ?_, fun number u segments outcome => ?_, fun f => ?_⟩
  · rw [frameCheck_append, step_eq]
    rfl
  · intro head received train request credit
    have length : (word16 ((BitVec.ofNat 16 body.length).extractLsb' 8 8)
        ((BitVec.ofNat 16 body.length).extractLsb' 0 8)).toNat = body.length := by
      rw [word16_bytes, BitVec.toNat_ofNat, Nat.mod_eq_of_lt small]
    have framed : received = _ := downstreamFrame_framed length c1 c0
    have request_iff : kind = 0x02#8 ∧ requestLengths.contains body.length = true ↔ request := by
      rw [List.contains_eq_mem, decide_eq_true_iff]
      rfl
    refine ⟨fun fails => framed.trans (if_neg fails), fun passes => ?_⟩
    rw [if_pos (by exact passes)] at framed
    refine ⟨fun isTrain => framed.trans (if_pos isTrain), fun isRequest => ?_, fun count reserved isCredit is => ?_,
      fun noTrain noRequest noCredit => ?_⟩
    · obtain ⟨isKind, lengths⟩ := isRequest
      rw [framed, if_neg (fun isTrain => by rw [isKind] at isTrain; cases isTrain.1),
        if_pos (request_iff.mpr ⟨isKind, lengths⟩)]
    · obtain ⟨isKind, two⟩ := isCredit
      rw [framed, if_neg (fun isTrain => by rw [isKind] at isTrain; cases isTrain.1),
        if_neg (fun isRequest => by rw [isKind] at isRequest; cases isRequest.1), if_pos ⟨isKind, two⟩, is]
      rfl
    · rw [framed, if_neg noTrain, if_neg (mt request_iff.mp noRequest), if_neg noCredit]
  · have is := sends (f := .train run) rfl rfl
    rwa [byteOf_toNat] at is
  · have status_eq : r.status.code.toNat = status r.status := by cases r.status <;> rfl
    exact sends (f := .reply r) rfl (by rw [List.map_append, ← status_eq]; rfl)
  · refine sends (f := .alert a) rfl ?_
    have sources : (a.sources.setWidth 8).toNat = a.sources.toNat := by
      rw [BitVec.toNat_setWidth, Nat.mod_eq_of_lt (a.sources.isLt.trans (by decide))]
    rw [List.map_cons, List.map_cons, List.map_nil, sources, byteOf_toNat]
  · have mode_eq : mode.code.toNat = match mode with | .epochs => 0 | .cycles => 1 := by cases mode <;> rfl
    refine sends (f := .capture (.header r attempt mode)) rfl ?_
    rewrite [CaptureFrame.body, List.map_append, List.map_cons, List.map_cons, List.map_nil, byteOf_toNat, mode_eq]
    rfl
  · refine sends (f := .capture (.segment number u index slots)) rfl ?_
    simp only [CaptureFrame.body, List.map_append, List.map_cons, List.map_nil, List.map_flatMap, two_eq, count_eq,
      byteOf_fin_toNat (by decide : 4 ≤ 256), byteOf_toNat, slot_eq]
  · have outcome_eq : outcome.code.toNat = match outcome with | .complete => 0 | .aborted => 1 := by
      cases outcome <;> rfl
    refine sends (f := .capture (.finish number u segments outcome)) rfl ?_
    simp only [CaptureFrame.body, List.map_append, List.map_cons, List.map_nil, two_eq, count_eq,
      byteOf_fin_toNat (by decide : 4 ≤ 256)]
    rewrite [outcome_eq]
    rfl
  · refine sends (f := .stream f) rfl ?_
    simp only [StreamFrame.body, StreamFrame.channels, List.map_append, two_eq, four_eq, count_eq, present_eq, values_eq]
    rfl

end Sys2Proof.Proofs.Frames
end

section
/-! Table entries in bytes (Tables 12-7 and 12-8): written, read back, and the reserved bits left alone. -/

namespace Sys2Proof.Machine

/-! ### Flags and codes as numbers -/

theorem flags3_toNat : ∀ a b c : Bool, (flag 0 a ||| flag 1 b ||| flag 2 c).toNat =
    (if a then 1 else 0) + 2 * (if b then 1 else 0) + 4 * if c then 1 else 0 := by decide

theorem flags5_toNat : ∀ a b c d e : Bool, (flag 0 a ||| flag 1 b ||| flag 2 c ||| flag 3 d ||| flag 4 e).toNat =
    (if a then 1 else 0) + 2 * (if b then 1 else 0) + 4 * (if c then 1 else 0) + 8 * (if d then 1 else 0) +
      16 * if e then 1 else 0 := by decide

theorem flags6_toNat : ∀ a b c d e f : Bool,
    (flag 0 a ||| flag 1 b ||| flag 2 c ||| flag 3 d ||| flag 4 e ||| flag 5 f).toNat =
      (if a then 1 else 0) + 2 * (if b then 1 else 0) + 4 * (if c then 1 else 0) + 8 * (if d then 1 else 0) +
        16 * (if e then 1 else 0) + 32 * if f then 1 else 0 := by decide

theorem setWidth8_toNat {w : Nat} (small : w ≤ 8) (x : BitVec w) : (x.setWidth 8).toNat = x.toNat := by
  rw [BitVec.toNat_setWidth, Nat.mod_eq_of_lt (x.isLt.trans_le (Nat.pow_le_pow_right (by decide) small))]

/-- The byte of a channel's lane and slot. -/
theorem source_toNat (lane : Fin 4) (slot : Fin 8) : (byteOf (16 * lane + slot)).toNat = 16 * lane.val + slot.val := by
  rw [byteOf_toNat]
  omega

/-! ### Fields read back -/

theorem word16_countBytes {n : Nat} (small : n < 65536) :
    (word16 ((BitVec.ofNat 16 n).extractLsb' 8 8) ((BitVec.ofNat 16 n).extractLsb' 0 8)).toNat = n := by
  rw [word16_bytes, BitVec.toNat_ofNat, Nat.mod_eq_of_lt small]

theorem setWidth_setWidth8 {w : Nat} (small : w ≤ 8) (x : BitVec w) : (x.setWidth 8).setWidth w = x := by
  refine BitVec.eq_of_toNat_eq ?_
  rw [BitVec.toNat_setWidth, setWidth8_toNat small, Nat.mod_eq_of_lt x.isLt]

theorem flag_zero_get (b : Bool) : (flag 0 b).getLsbD 0 = b := by
  cases b <;> rfl

theorem flags3_get : ∀ a b c : Bool, (flag 0 a ||| flag 1 b ||| flag 2 c).getLsbD 0 = a ∧
    (flag 0 a ||| flag 1 b ||| flag 2 c).getLsbD 1 = b ∧
    (flag 0 a ||| flag 1 b ||| flag 2 c).getLsbD 2 = c := by decide

theorem byteOf_toNat_of_lt {n : Nat} (small : n < 256) : (byteOf n).toNat = n := by
  rw [byteOf_toNat, Nat.mod_eq_of_lt small]

theorem finOf_byteOf {n : Nat} (small : n ≤ 256) (i : Fin n) : finOf n (byteOf i.val).toNat = some i :=
  finOf_of_eq (byteOf_fin_toNat small i)

theorem codingOf_code (x : Coding) : codingOf x.code = some x := by cases x <;> rfl

theorem directionOf_code (x : Direction) : directionOf x.code = some x := by cases x <;> rfl

theorem testOf_code (x : Test) : testOf x.code = some x := by cases x <;> rfl

theorem postModeOf_code (x : PostMode) : postModeOf x.code = some x := by cases x <;> rfl

theorem retriggerOf_code (x : Retrigger) : retriggerOf x.code = some x := by cases x <;> rfl

theorem handOffOf_code (x : HandOff) : handOffOf x.code = some x := by cases x <;> rfl

theorem afterReleaseOf_code (x : AfterRelease) : afterReleaseOf x.code = some x := by cases x <;> rfl

/-- An action's two bytes; a SKIP distance of 0 alone is not read back (R41). -/
theorem actionOf_bytes {a : Action} (legal : a ≠ .skip 0) : ∃ kind operand, a.bytes = [kind, operand] ∧
    actionOf kind operand = some a := by
  cases a with
  | next => exact ⟨_, _, rfl, rfl⟩
  | endWalk => exact ⟨_, _, rfl, rfl⟩
  | skip k =>
    refine ⟨_, _, rfl, ?_⟩
    have distance : (byteOf k.val).extractLsb' 0 4 = BitVec.ofFin k := by
      refine BitVec.eq_of_toNat_eq ?_
      rw [toNat_lowNibble, byteOf_fin_toNat (by decide), Nat.mod_eq_of_lt k.isLt]
      rfl
    have positive : BitVec.ofFin k ≠ (0 : BitVec 4) := fun zero => legal (by
      have : k = 0 := congrArg BitVec.toFin zero
      rw [this])
    show (if (byteOf k.val).extractLsb' 0 4 = 0 then none
      else some (Action.skip ((byteOf k.val).extractLsb' 0 4).toFin)) = _
    rw [distance, if_neg positive]
  | fire t =>
    refine ⟨_, _, rfl, ?_⟩
    show (finOf 8 (byteOf t.val).toNat).map Action.fire = _
    rw [finOf_byteOf (by decide)]
    rfl
  | fireEnd t =>
    refine ⟨_, _, rfl, ?_⟩
    show (finOf 8 (byteOf t.val).toNat).map Action.fireEnd = _
    rw [finOf_byteOf (by decide)]
    rfl

/-! ### Entries read back (R175) -/

theorem bind_of_some {α β : Type} {o : Option α} {a : α} {f : α → Option β} {r : Option β} (field : o = some a)
    (rest : f a = r) : (o >>= f) = r := by
  rw [field]
  exact rest

theorem ensure_bind {β : Type} {ok : Bool} {r : Option β} (holds : ok = true) : (ensure ok >>= fun _ => r) = r := by
  rw [holds]
  rfl

theorem controlOf_bytes {r : ControlRecord} (legal : 10 ≤ r.period.toNat) : controlOf r.bytes = some r := by
  show (if (word16 _ _).toNat < 10 then none else some _) = some r
  rw [word16_bytes, if_neg (Nat.not_lt.mpr legal), setWidth_setWidth8 (by decide), setWidth_setWidth8 (by decide),
    flag_zero_get]

theorem levelOf_bytes (v : Value) : levelOf (bytes16 v) = some v := congrArg some (word16_bytes v)

theorem channelOf_bytes {e : ChannelEntry} (hysteresis : e.hysteresis ≤ 4095) (least : 1 ≤ e.divisor)
    (most : e.divisor ≤ 256) : channelOf e.bytes = some e := by
  have source := source_toNat e.lane e.slot
  obtain ⟨enabled, invert, forward⟩ := flags3_get e.enabled e.invert e.forward
  refine bind_of_some (a := e.lane) (finOf_of_eq (by rw [toNat_highNibble]; omega)) <|
    bind_of_some (a := e.slot) (finOf_of_eq (by rw [toNat_lowNibble]; omega)) <|
    bind_of_some (codingOf_code e.coding) <| bind_of_some (directionOf_code e.direction) <| ?_
  rw [word16_countBytes (by omega), word16_countBytes (by omega), word16_bytes, word16_bytes, enabled, invert, forward]
  refine ensure_bind ?_
  simp only [Bool.and_eq_true, decide_eq_true_eq]
  exact ⟨⟨hysteresis, least⟩, most⟩

theorem conditionOf_bytes {e : ConditionEntry} (onTrue : e.onTrue ≠ .skip 0) (onFalse : e.onFalse ≠ .skip 0) :
    conditionOf e.bytes = some e := by
  obtain ⟨tk, tv, trueBytes, isTrue⟩ := actionOf_bytes onTrue
  obtain ⟨fk, fv, falseBytes, isFalse⟩ := actionOf_bytes onFalse
  rw [ConditionEntry.bytes, trueBytes, falseBytes]
  refine bind_of_some (testOf_code e.test) <| bind_of_some (finOf_byteOf (by decide) e.channel) <|
    bind_of_some (finOf_byteOf (by decide) e.levelA) <| bind_of_some (finOf_byteOf (by decide) e.levelB) <|
    bind_of_some isTrue <| bind_of_some isFalse <| ?_
  rw [flag_zero_get]
  rfl

theorem triggerOf_bytes {e : TriggerEntry} (legal : e.holdOff ≤ 65535) : triggerOf e.bytes = some e := by
  have holdOff := word16_countBytes (n := e.holdOff) (by omega)
  cases target : e.target with
  | none =>
    rw [TriggerEntry.bytes, target]
    refine bind_of_some (a := none) rfl ?_
    rw [holdOff, ← target]
    rfl
  | some u =>
    rw [TriggerEntry.bytes, target]
    have notLast : byteOf u.val ≠ 0xFF#8 := fun last => by
      have := congrArg BitVec.toNat last
      rw [byteOf_fin_toNat (by decide)] at this
      have : u.val = 255 := this
      omega
    show triggerOf [byteOf u.val, 0, (BitVec.ofNat 16 e.holdOff).extractLsb' 8 8,
      (BitVec.ofNat 16 e.holdOff).extractLsb' 0 8] = some e
    rw [triggerOf, if_neg notLast, finOf_byteOf (by decide), holdOff]
    show some { target := some u, holdOff := e.holdOff } = some e
    rw [← target]

theorem unitOf_bytes {c : UnitConfig} (firstBlock : c.firstBlock ≤ 63) (blockCount : c.blockCount ≤ 64)
    (pre : c.pre ≤ 4095) (postLength : c.postLength ≤ 4095) (guard : c.guard ≤ 4095)
    (usable : c.inUse = true → c.usable = true) : unitOf c.bytes = some c := by
  refine bind_of_some (postModeOf_code c.postMode) <| bind_of_some (finOf_byteOf (by decide) c.reference) <|
    bind_of_some (retriggerOf_code c.retrigger) <| bind_of_some (handOffOf_code c.handOff) <|
    bind_of_some (afterReleaseOf_code c.afterRelease) <| ?_
  dsimp only
  rw [word16_countBytes (by omega), word16_countBytes (by omega), word16_countBytes (by omega), word16_bytes,
    flag_zero_get, byteOf_toNat_of_lt (by omega), byteOf_toNat_of_lt (by omega)]
  refine ensure_bind ?_
  rw [Bool.and_eq_true, Bool.or_eq_true, Bool.not_eq_true']
  refine ⟨?_, ?_⟩
  · simp only [UnitConfig.stored, Bool.and_eq_true, decide_eq_true_eq]
    exact ⟨⟨⟨⟨firstBlock, blockCount⟩, pre⟩, postLength⟩, guard⟩
  · cases inUse : c.inUse with
    | false => exact .inl rfl
    | true => exact .inr (usable inUse)

/-! ### Reserved bits and bytes (R171, R175) -/

/-- The low bits of two bytes agree when the bytes do modulo a power of 2. -/
theorem getLsbD_congr {f g : Byte} {n : Nat} (same : f.toNat % 2 ^ n = g.toNat % 2 ^ n) {k : Nat} (low : k < n) :
    f.getLsbD k = g.getLsbD k := by
  have bits : (f.toNat % 2 ^ n).testBit k = (g.toNat % 2 ^ n).testBit k := by rw [same]
  rwa [Nat.testBit_mod_two_pow, Nat.testBit_mod_two_pow, decide_eq_true low, Bool.true_and, Bool.true_and,
    BitVec.testBit_toNat, BitVec.testBit_toNat] at bits

theorem setWidth_congr {f g : Byte} {n : Nat} (same : f.toNat % 2 ^ n = g.toNat % 2 ^ n) :
    f.setWidth n = g.setWidth n := BitVec.eq_of_toNat_eq (by rw [BitVec.toNat_setWidth, BitVec.toNat_setWidth, same])

/-- What an action reads of its operand: four bits in a SKIP, all in a fire, nothing in a NEXT or an END. -/
theorem actionOf_congr {k v w : Byte} (same : v = w ∨ (k = 1 ∧ v.toNat % 16 = w.toNat % 16) ∨ k = 0 ∨ k = 4) :
    actionOf k v = actionOf k w := by
  obtain rfl | ⟨rfl, low⟩ | rfl | rfl := same
  · rfl
  · have distance : v.extractLsb' 0 4 = w.extractLsb' 0 4 :=
      BitVec.eq_of_toNat_eq (by rw [toNat_lowNibble, toNat_lowNibble, low])
    show (if v.extractLsb' 0 4 = 0 then none else some (Action.skip (v.extractLsb' 0 4).toFin)) = _
    rw [distance]
    rfl
  · rfl
  · rfl

end Sys2Proof.Machine

namespace Sys2Proof.Proofs.Entries
open Sys2Proof.Machine

/-- Settles O50: each layout as numbers, each field read back, and the bits each decoder looks at. -/
theorem entriesReadBackAsWritten : Obligations.EntriesReadBackAsWritten := by
  unfold Obligations.EntriesReadBackAsWritten
  intro two four yes opt16 opt32 action block
  have two_eq (x : BitVec 16) : (bytes16 x).map BitVec.toNat = two x.toNat := bytes16_toNat x
  have four_eq (x : BitVec 32) : (bytes32 x).map BitVec.toNat = four x.toNat := bytes32_toNat x
  have count_eq (n : Nat) : (countBytes n).map BitVec.toNat = two n := countBytes_toNat n
  have opt16_eq (x : Option (BitVec 16)) : (optional16 x).map BitVec.toNat = opt16 x := bytes16_toNat _
  have opt32_eq (x : Option (BitVec 32)) : (optional32 x).map BitVec.toNat = opt32 x := bytes32_toNat _
  have fin_eq {n : Nat} (i : Fin n) (small : n ≤ 256) : (byteOf i.val).toNat = i.val := byteOf_fin_toNat small i
  have action_eq (a : Action) : a.bytes.map BitVec.toNat = action a := by
    cases a with
    | next | endWalk => rfl
    | skip k => simp only [Action.bytes, List.map_cons, List.map_nil, fin_eq k (by decide)]; rfl
    | fire t | fireEnd t => simp only [Action.bytes, List.map_cons, List.map_nil, fin_eq t (by decide)]; rfl
  have block_eq (r : CaptureRecord) : r.bytes.map BitVec.toNat = block r := by
    cases settled : r.settled with
    | none =>
      simp only [CaptureRecord.bytes, settled, List.map_append, List.map_cons, List.map_nil, two_eq, four_eq, count_eq,
        flags3_toNat, fin_eq r.unit (by decide), fin_eq r.trigger (by decide), byteOf_toNat, block]
      rfl
    | some f =>
      simp only [CaptureRecord.bytes, settled, List.map_append, List.map_cons, List.map_nil, two_eq, four_eq, count_eq,
        flags3_toNat, fin_eq r.unit (by decide), fin_eq r.trigger (by decide), byteOf_toNat, block]
      cases f.endReason <;> rfl
  refine ⟨block_eq, fun e => ?_, ⟨fun r => controlOf_bytes, fun e => channelOf_bytes, levelOf_bytes,
    fun e => conditionOf_bytes, fun e => triggerOf_bytes, fun c => unitOf_bytes⟩, ?_⟩
  · cases e with
    | control r =>
      simp only [TableEntry.bytes, ControlRecord.bytes, List.map_append, List.map_cons, List.map_nil, two_eq,
        setWidth8_toNat (by decide : 4 ≤ 8), setWidth8_toNat (by decide : 7 ≤ 8), flag_zero_toNat]
      rfl
    | channel e =>
      have coding (x : Coding) : x.code.toNat = match x with | .bipolar => 0 | .unipolar => 1 := by cases x <;> rfl
      have direction (x : Direction) : x.code.toNat = match x with | .rising => 0 | .falling => 1 | .both => 2 := by
        cases x <;> rfl
      simp only [TableEntry.bytes, ChannelEntry.bytes, List.map_append, List.map_cons, List.map_nil, two_eq, count_eq,
        flags3_toNat, source_toNat]
      rewrite [coding, direction]
      rfl
    | channelRuntime r =>
      have crossing (x : CrossingState) : x.code.toNat = match x with | .unknown => 0 | .above => 1 | .below => 2 := by
        cases x <;> rfl
      simp only [TableEntry.bytes, ChannelRuntime.bytes, List.map_append, List.map_cons, List.map_nil, two_eq, opt16_eq,
        opt32_eq, flags5_toNat]
      rewrite [crossing]
      rfl
    | level v => exact two_eq v
    | condition e =>
      have test (x : Test) : x.code.toNat = match x with
          | .above => 0 | .below => 1 | .inside => 2 | .outside => 3 | .crossed => 4 | .rise => 5 | .fall => 6
          | .absent => 7 := by cases x <;> rfl
      simp only [TableEntry.bytes, ConditionEntry.bytes, List.map_append, List.map_cons, List.map_nil, action_eq,
        flag_zero_toNat, fin_eq e.channel (by decide), fin_eq e.levelA (by decide), fin_eq e.levelB (by decide)]
      rewrite [test]
      rfl
    | trigger e =>
      cases target : e.target with
      | none => simp only [TableEntry.bytes, TriggerEntry.bytes, target, List.map_append, count_eq]; rfl
      | some u =>
        simp only [TableEntry.bytes, TriggerEntry.bytes, target, List.map_append, List.map_cons, List.map_nil, count_eq,
          fin_eq u (by decide)]
        rfl
    | triggerRuntime r =>
      simp only [TableEntry.bytes, TriggerRuntime.bytes, List.map_append, List.map_cons, List.map_nil, count_eq, opt32_eq,
        flag_zero_toNat]
      rfl
    | unit c =>
      have postMode (x : PostMode) : x.code.toNat = match x with | .epochs => 0 | .cycles => 1 := by cases x <;> rfl
      have retrigger (x : Retrigger) : x.code.toNat = match x with | .ignore => 0 | .extend => 1 := by cases x <;> rfl
      have handOff (x : HandOff) : x.code.toNat = match x with | .auto => 0 | .retain => 1 := by cases x <;> rfl
      have afterRelease (x : AfterRelease) : x.code.toNat = match x with | .oneShot => 0 | .rearm => 1 := by
        cases x <;> rfl
      simp only [TableEntry.bytes, UnitConfig.bytes, List.map_append, List.map_cons, List.map_nil, two_eq, count_eq,
        flag_zero_toNat, byteOf_toNat, fin_eq c.reference (by decide)]
      rewrite [postMode, retrigger, handOff, afterRelease]
      rfl
    | unitStatus u =>
      have state (x : UnitState) : x.code.toNat = match x with
          | .idle => 0 | .filling => 1 | .armed => 2 | .post => 3 | .held => 4 | .draining => 5 | .delivered => 6 := by
        cases x <;> rfl
      simp only [TableEntry.bytes, UnitStatusEntry.bytes, List.map_append, List.map_cons, List.map_nil, count_eq,
        opt32_eq, flags6_toNat, byteOf_toNat]
      rewrite [state]
      cases record : u.record with
      | none => rfl
      | some r =>
        dsimp only
        rewrite [block_eq]
        rfl
    | laneStatus l =>
      have state (x : LaneState) : x.code.toNat = match x with | .off => 0 | .seeking => 1 | .locked => 2 := by
        cases x <;> rfl
      simp only [TableEntry.bytes, LaneStatusEntry.bytes, List.map_append, List.map_cons, List.map_nil, count_eq,
        byteOf_toNat]
      rewrite [state]
      rfl
  · intro operand
    refine ⟨fun p1 p0 l m a b o q x y lanes alerts options => ?_, fun f g rest flags => ?_,
      fun f g test ch a b k1 v1 w1 k2 v2 w2 x y flags onTrue onFalse => ?_, fun t x y h1 h0 => rfl,
      fun f g rest flags => ?_⟩
    · rw [controlOf_eq, controlOf_eq, setWidth_congr (n := 4) lanes, setWidth_congr (n := 7) alerts,
        getLsbD_congr (n := 1) options (by decide)]
    · by_cases length : rest.length = 11
      · match rest, length with
        | [source, coding, direction, o1, o0, l1, l0, h1, h0, d1, d0], _ =>
          unfold channelOf
          dsimp only
          rw [getLsbD_congr (n := 3) flags (by decide : 0 < 3), getLsbD_congr (n := 3) flags (by decide : 1 < 3),
            getLsbD_congr (n := 3) flags (by decide : 2 < 3)]
      · have refused (h : Byte) : channelOf (h :: rest) = none :=
          (channelOf_eq_none_iff _).mpr (.inl (by rw [List.length_cons]; omega))
        rw [refused f, refused g]
    · unfold conditionOf
      dsimp only
      rw [getLsbD_congr (n := 1) flags (by decide), actionOf_congr onTrue, actionOf_congr onFalse]
    · by_cases length : rest.length = 15
      · match rest, length with
        | [first, count, mode, m1, m0, p1, p0, l1, l0, g1, g0, reference, retrigger, handOff, after], _ =>
          unfold unitOf
          dsimp only
          rw [getLsbD_congr (n := 1) flags (by decide)]
      · have refused (h : Byte) : unitOf (h :: rest) = none :=
          (unitOf_eq_none_iff _).mpr (.inl (by rw [List.length_cons]; omega))
        rw [refused f, refused g]

end Sys2Proof.Proofs.Entries
end

end
